-- ==== Sys2Proof/Word.lean ====
section
/-!
DEFINITION. The word types of the block (spec/00_scope.md R8): a byte is 8 bits, unsigned; a
two-byte field is 16 bits. Everything else about bytes (byte order, field assembly, sums) stands in
Sys2Proof/Machine/Operands.lean and Sys2Proof/Machine/Checksum.lean.
-/

namespace Sys2Proof

/-- A byte: 8 bits, unsigned, 0 to 255 (R8). -/
abbrev Byte := BitVec 8

/-- A two-byte field: 16 bits, unsigned (R8, R70). -/
abbrev Half := BitVec 16

end Sys2Proof
end

