-- ==== Sys2Proof/Config.lean ====
section
/-!
DEFINITION. The implementation parameters of the block (spec/00_scope.md R6). Every parameter with a
value given there is a constant of the model: R7 forbids a model to parameterise it. The open ones are
arguments: `DEST_ADDR64` is a strap input held in `State` (log entry 6), `LATCH_DELAY` is a field of the
host model (log entry 16), `READ_TIMEOUT` belongs to the transport, which R5 puts out of scope.
-/

namespace Sys2Proof.Config

/-- `DELIM`, the frame delimiter (R6, R60). -/
abbrev delim : Byte := 0x7E

/-- `LEN_BITS`, the width of the length field (R6). -/
abbrev lenBits : Nat := 16

/-- `FRAME_ID`, the constant outbound frame id (R6, R34). -/
abbrev frameId : Byte := 0x04

/-- `TYPE_REMOTE_AT` (R6, R64). -/
abbrev typeRemoteAt : Byte := 0x17

/-- `TYPE_IO_SAMPLE` (R6, R64). -/
abbrev typeIoSample : Byte := 0x92

/-- `TYPE_AT_RESPONSE` (R6, R64). -/
abbrev typeAtResponse : Byte := 0x97

/-- `DEST_ADDR16`, the "unknown" network address (R6, R44). -/
abbrev destAddr16 : Half := 0xFFFE

/-- `OPT_BASE`, the base value of the options byte (R6, R69). -/
abbrev optBase : Byte := 0x02

/-- `SWITCH_BIT` as a mask: bit 3 of the 16-bit mask and sample (R6, R170). -/
abbrev switchMask : Half := 0x0008

/-- `V_NUM` (R6, R171). -/
abbrev vNum : Nat := 1200

/-- `V_DEN` (R6, R171). -/
abbrev vDen : Nat := 1024

/-- `BUF_BYTES`, the frame buffer's capacity: 3 + 65535 + 1 (R6, R27). -/
abbrev bufBytes : Nat := 65539

/-- The command code `D0`, two ASCII bytes as one 16-bit value (R68). -/
abbrev cmdD0 : Half := 0x4430

/-- The command code `%V`, two ASCII bytes as one 16-bit value (R68, R172). -/
abbrev cmdPctV : Half := 0x2556

/-- The bytes between the length field and the command code of a built frame (R152). -/
abbrev fixedFieldBytes : Nat := 13

/-- The longest parameter list a built frame can carry (R151). -/
abbrev maxParamBytes : Nat := 65520

/-- The least `0x92` payload that reaches the digital sample (R76). -/
abbrev minIoPayload : Nat := 18

/-- The least `0x97` payload that reaches the command code (R76). -/
abbrev minAtPayload : Nat := 14

/-- The least `0x97` payload that reaches the `%V` value (R76). -/
abbrev minVoltagePayload : Nat := 17

end Sys2Proof.Config
end

