-- ==== Sys2Proof/Machine/Operands.lean ====
section
/-!
DEFINITION. Byte order and operand assembly (spec/20_memory.md R41 to R46; spec/30_encoding.md R60, R70):
how multi-byte fields are read out of byte lists and written into them. Nothing here reads the state.
-/

namespace Sys2Proof.Machine

/-- `{hi, lo}`: two bytes as a 16-bit value, the first byte most significant (R8, R42, R43). -/
def be16 (hi lo : Byte) : Half := hi ++ lo

/-- The high byte of a 16-bit value, the one at the lower offset (R42). -/
def hiByte (v : Half) : Byte := v.extractLsb' 8 8

/-- The low byte of a 16-bit value, the one at the higher offset (R42). -/
def loByte (v : Half) : Byte := v.extractLsb' 0 8

/-- A 16-bit value as it goes on the wire, most-significant byte first (R42, R44). -/
def be16Bytes (v : Half) : List Byte := [hiByte v, loByte v]

/-- A 64-bit address as it goes on the wire: bits 63:56 first (R44). -/
def be64Bytes (v : BitVec 64) : List Byte :=
  [v.extractLsb' 56 8, v.extractLsb' 48 8, v.extractLsb' 40 8, v.extractLsb' 32 8,
   v.extractLsb' 24 8, v.extractLsb' 16 8, v.extractLsb' 8 8, v.extractLsb' 0 8]

/-- `p[i]`. Every use stands behind a length guard, so the value past the end is never read
(R41, R174; log entry 19). -/
def byteAt (p : List Byte) (i : Nat) : Byte := p.getD i 0

/-- The big-endian 16-bit field of `p` at offset `k`: `{p[k], p[k+1]}` (R43, R70). -/
def field16 (p : List Byte) (k : Nat) : Half := be16 (byteAt p k) (byteAt p (k + 1))

/-- `s.len[15:8] <- b ; s.len[7:0] <- 0` (R123). -/
def lenWithHi (b : Byte) : Half := be16 b 0

/-- `s.len[7:0] <- b`, the high byte kept (R124). -/
def lenWithLo (len : Half) (b : Byte) : Half := be16 (hiByte len) b

/-- `f[3 .. 3 + L)`: the payload of a whole frame whose length field is `L` (R60, R126). -/
def payloadOf (f : List Byte) (L : Nat) : List Byte := (f.drop 3).take L

/-- The options byte of a `0x17` frame: the base value plus the ACK-disable bit (R69). -/
def optionsByte (disableAck : Bool) : Byte := Config.optBase + (if disableAck then 1 else 0)

/-- `mask` of a `0x92` payload, offsets 13-14 (R66, R70). -/
def ioMask (p : List Byte) : Half := field16 p 13

/-- `sample` of a `0x92` payload, offsets 16-17 (R66, R70). -/
def ioSample (p : List Byte) : Half := field16 p 16

/-- `cmd` of a `0x97` payload, offsets 12-13 (R67, R70). -/
def atCommand (p : List Byte) : Half := field16 p 12

/-- `raw` of a `0x97` `%V` payload, offsets 15-16 (R67, R70). -/
def atValue (p : List Byte) : Half := field16 p 15

end Sys2Proof.Machine
end

