-- ==== Sys2Proof/Machine/Checksum.lean ====
section
/-!
DEFINITION. The checksum codec's two functions and the wire form of a frame (spec/40_checksum.md R100, R101;
spec/30_encoding.md R60). Sums are over naturals and reduced mod 256 at the end (R103).
-/

namespace Sys2Proof.Machine

/-- `sum(p)`: the natural-number sum of the bytes of `p` (R8). -/
def sumBytes : List Byte → Nat
  | [] => 0
  | b :: p => b.toNat + sumBytes p

/-- `computeChecksum`: `0xFF` less the sum's low 8 bits (R100). -/
def checksumOf (p : List Byte) : Byte := BitVec.ofNat 8 (0xFF - sumBytes p % 256)

/-- `verifyChecksum`: the bytes from offset 3 onward, the checksum byte included, sum to `0xFF`
mod 256 (R101). -/
def checksumHolds (f : List Byte) : Bool := sumBytes (f.drop 3) % 256 == 0xFF

/-- The frame that carries the payload `p`: delimiter, big-endian length, payload, checksum (R60, R61). -/
def wireFrame (p : List Byte) : List Byte :=
  [Config.delim] ++ be16Bytes (BitVec.ofNat 16 p.length) ++ p ++ [checksumOf p]

end Sys2Proof.Machine
end

