-- ==== Sys2Proof/Syntax.lean ====
section
/-!
DEFINITION. What the block's ports carry in (spec/10_state.md R26), the six encoding formats of
spec/opcode_table.json as words, and the instructions: one constructor per row of the table.

The table has two levels. The formats `rx`, `op` and `rst` are what a port carries: one transaction per
step (R10, R26). The formats `frame_byte`, `frame_type` and `at_cmd` name what such a transaction is at
the level of the frames: a byte at frame offset 0, the frame that a valid last body byte completes, a
build request for a command code the block knows (spec/30_encoding.md, its opening; log entry 7).
-/

namespace Sys2Proof

/-- The operands of an `op` request, passed by value (R40, R71). An operation reads the lanes that its
row of R71's table names; the other lanes are not read (log entry 9). -/
structure OpArgs where
  /-- The byte list: `p`, `f` or `q`. -/
  bytes : List Byte
  /-- The command code `c` of `BUILD_REMOTE_AT`. -/
  code : List Byte
  /-- The `disableAck` bit of `BUILD_REMOTE_AT`. -/
  disableAck : Bool
deriving DecidableEq, Repr

/-- One transaction on one of the three input ports (R10, R26), with its bits as R71 numbers them. -/
inductive Transaction where
  /-- A 10-bit `rx` symbol: `kind[9:8]`, `data[7:0]`. -/
  | rx (sym : BitVec 10)
  /-- A 4-bit `op` request code with its operands. -/
  | op (code : BitVec 4) (args : OpArgs)
  /-- The one bit of `rst`. -/
  | rst (bit : BitVec 1)
deriving DecidableEq, Repr

/-- A word of one of the six formats of spec/opcode_table.json. -/
inductive Word where
  /-- Formats `rx`, `op` and `rst`: a transaction on a port. -/
  | port (t : Transaction)
  /-- Format `frame_byte`: the byte received at frame offset 0. -/
  | frameByte (b : Byte)
  /-- Format `frame_type`: the payload of a frame whose checksum holds; its byte 0 is the type. -/
  | frameType (payload : List Byte)
  /-- Format `at_cmd`: a command code to build, with the other operands of the request. -/
  | atCmd (code : Half) (q : List Byte) (disableAck : Bool)
deriving DecidableEq, Repr

/-- The instructions: one constructor per row of spec/opcode_table.json. -/
inductive Instr where
  /-- `RX_BYTE` (R120): the byte `b` arrives on `rx`. -/
  | rxByte (b : Byte)
  /-- `RX_TIMEOUT` (R128). -/
  | rxTimeout
  /-- `RX_FAULT` (R129). -/
  | rxFault
  /-- `RX_RESERVED` (R72): kind `11`, or a `Timeout` or `Fault` with nonzero data. -/
  | rxReserved (sym : BitVec 10)
  /-- `COMPUTE_CHECKSUM p` (R100). -/
  | computeChecksum (p : List Byte)
  /-- `VERIFY_CHECKSUM f` (R101). -/
  | verifyChecksum (f : List Byte)
  /-- `BUILD_REMOTE_AT c, q, disableAck` (R150). -/
  | buildRemoteAt (c q : List Byte) (disableAck : Bool)
  /-- `EXTRACT_SWITCH p` (R170). -/
  | extractSwitch (p : List Byte)
  /-- `EXTRACT_VOLTAGE p` (R171). -/
  | extractVoltage (p : List Byte)
  /-- `OP_RESERVED_0` (R72): `op` code `0x0`. -/
  | opReserved0
  /-- `OP_RESERVED_6_7` (R72): `op` code `0x6 + lo`. -/
  | opReserved67 (lo : BitVec 1)
  /-- `OP_RESERVED_8_F` (R72): `op` code `0x8 + lo`. -/
  | opReserved8F (lo : BitVec 3)
  /-- `RESET` (R240). -/
  | reset
  /-- `DELIMITER` (R121): the byte `0x7E` at frame offset 0. -/
  | delimiter
  /-- `NON_DELIMITER` (R122): a byte other than `0x7E` at frame offset 0. -/
  | nonDelimiter (b : Byte)
  /-- `TYPE_REMOTE_AT_COMMAND` (R64, R127): a validated frame of payload `0x17 :: rest` arrives. -/
  | typeRemoteAtCommand (rest : List Byte)
  /-- `TYPE_IO_DATA_SAMPLE` (R64, R127): a validated frame of payload `0x92 :: rest` arrives. -/
  | typeIoDataSample (rest : List Byte)
  /-- `TYPE_AT_COMMAND_RESPONSE` (R64, R127): a validated frame of payload `0x97 :: rest` arrives. -/
  | typeAtCommandResponse (rest : List Byte)
  /-- `TYPE_UNRECOGNIZED` (R64, R127): a validated frame of another type, or with no type, arrives. -/
  | typeUnrecognized (p : List Byte)
  /-- `AT_CMD_D0` (R68, R150): a build request for the command code `D0`. -/
  | atCmdD0 (q : List Byte) (disableAck : Bool)
  /-- `AT_CMD_PCT_V` (R68, R150, R172): a build request for the command code `%V`. -/
  | atCmdPctV (q : List Byte) (disableAck : Bool)
deriving DecidableEq, Repr

/-- Why the block refuses a request (R225). -/
inductive RefuseReason where
  /-- A reserved `op` code (R72). -/
  | reservedOp
  /-- A reserved `rx` symbol (R72). -/
  | reservedRxSymbol
  /-- `rst` value 0, which is no request (R72). -/
  | reservedRst
  /-- A command code that is not exactly two bytes (R151). -/
  | badCommandCode
  /-- A parameter list of more than 65520 bytes (R151). -/
  | lengthOverflow
  /-- A payload that does not reach its type's fields (R174). -/
  | shortPayload
  /-- A payload of the wrong frame type (R174). -/
  | wrongFrameType
  /-- A `0x97` payload whose command code is not `%V` (R174). -/
  | notVoltageResponse
deriving DecidableEq, Repr

end Sys2Proof
end

