-- ==== Sys2Proof/Machine/State.lean ====
section
/-!
DEFINITION. The state of the block (spec/10_state.md), its output ports' records (spec/60_exceptions.md
R210, spec/10_state.md R26), the reasons a step can stop, and the state after reset (R32).
-/

namespace Sys2Proof.Machine

/-- The kind of a validated frame (R77). -/
inductive FrameKind where
  | other
  | ioSample
  | atResponse
  | short
deriving DecidableEq, Repr

/-- The record of a validated frame that `FRAME_OK` carries (R127, R210). Fields a kind does not set are 0. -/
structure FrameRecord where
  kind : FrameKind
  /-- The type byte; none when `L = 0`. -/
  type : Option Byte
  payload : List Byte
  /-- The switch state, `0x08` or `0x00`. -/
  sw : Byte
  /-- The embedded command code of a `0x97` frame. -/
  cmd : Half
  /-- Whether `mv` holds a decoded voltage. -/
  vvalid : Bool
  /-- The supply voltage in millivolts. -/
  mv : BitVec 17
deriving DecidableEq, Repr

/-- An event on `evt`, with its record (R210). "No event" is the absence of one. -/
inductive Event where
  /-- A frame whose checksum holds (R126). -/
  | frameOk (r : FrameRecord)
  /-- The byte that was not the delimiter (R211). -/
  | malformedFrame (b : Byte)
  /-- The whole rejected frame (R212). -/
  | badChecksum (frame : List Byte)
  /-- The receive side ended by a timeout (R214). -/
  | readTimeout
  /-- The receive side ended by a transport fault (R214). -/
  | transportFault
deriving DecidableEq, Repr

/-- What `res` carries: a byte, a bit, a natural number, a byte list, or a refusal (R26, R71). -/
inductive Result where
  | byte (b : Byte)
  | bit (v : Bool)
  | millivolts (v : BitVec 17)
  | bytes (f : List Byte)
  | refusal (r : RefuseReason)
deriving DecidableEq, Repr

/-- The state of the block. The parser registers and the strap are the spec's own; the output ports hold
what the last step put on them (log entry 3); `resetDone`, `runRefused` and `inputs` are the model's
(log entries 5, 4 and 1). -/
structure State where
  /-- Whether a `RESET` has happened. Before the first one every other register is unknown (R241). -/
  resetDone : Bool
  /-- `st`, the parser state: 0 `AWAIT_DELIM`, 1 `LEN_HI`, 2 `LEN_LO`, 3 `BODY`, 4 `STOPPED` (R22). -/
  st : BitVec 3
  /-- `len`, the length field of the frame being received (R23). -/
  len : BitVec 16
  /-- `cnt`, the body bytes received so far (R24). -/
  cnt : BitVec 17
  /-- `sum`, the running sum of the body bytes, mod 256 (R25). -/
  sum : BitVec 8
  /-- `buf`, every byte of the current frame received so far (R27; its bound is log entry 21). -/
  buf : List Byte
  /-- `stop`, why the receive side ended: 0 `NONE`, 1 `TIMEOUT`, 2 `FAULT` (R28). -/
  stop : BitVec 2
  /-- `DEST_ADDR64`, a strap input, fixed for the life of the model (R29). -/
  destAddr64 : BitVec 64
  /-- `evt`: the event of the last step, if it emitted one (R26, R217). -/
  evt : Option Event
  /-- `res`: the result of the last step, if it was a request (R26). -/
  res : Option Result
  /-- `tx`: the frame the last step built, if it built one (R26). -/
  tx : Option (List Byte)
  /-- The run has been marked as refused: some request of it was refused (R225). -/
  runRefused : Bool
  /-- The transactions that will come next on the input ports, the next one first (R10, R52). -/
  inputs : List Transaction
deriving DecidableEq, Repr

/-- Why the machine stops with a fault. -/
inductive Fault where
  /-- Any step other than `RESET` before the first `RESET` (R241, U1). Raised by every meaning but
  `RESET`'s. Safe: nothing is claimed of an unreset block. -/
  | notReset
  /-- An `rx` symbol that is not reserved meets an `st` encoding of 5, 6 or 7 (R22, R120, U2). Raised by
  the receive meanings. Safe: the spec gives those encodings no meaning, and no run from reset reaches one. -/
  | badParserState
deriving DecidableEq, Repr

/-- Why the machine has no meaning for an instruction. The block's own refusals are not here: R225 gives
them an effect, a refusal on `res` (log entry 4). -/
inductive Refusal where
  /-- Raised only by an arm of `exec` whose instruction has no meaning yet. Safe: the machine stops. -/
  | notModelled (mnemonic : String)
deriving DecidableEq, Repr

/-- The outcome of one step. -/
abbrev StepResult := Host.Outcome State Fault Refusal

/-- The block right after a `RESET` with the strap at `addr`, nothing on its ports (R32, R240). -/
def State.resetWith (addr : BitVec 64) : State where
  resetDone := true
  st := 0
  len := 0
  cnt := 0
  sum := 0
  buf := []
  stop := 0
  destAddr64 := addr
  evt := none
  res := none
  tx := none
  runRefused := false
  inputs := []

/-- The machine right after reset (R32). The strap's value is not the spec's: log entry 6, DESIGN CHOICE. -/
def State.reset : State := State.resetWith 0

end Sys2Proof.Machine
end

