-- ==== Sys2Proof/Machine/Flags.lean ====
section
/-!
DEFINITION. The block has no condition codes; `stop` is its only status flag (spec/10_state.md R28). This
file gives the numbers of the named encodings: `st` (R22), `stop` (R28), event codes (R210) and kind codes
(R77), and the severities a logger gives the events (R218).
-/

namespace Sys2Proof.Machine

/-- The named encodings of `st` (R22). -/
inductive ParserState where
  | awaitDelim
  | lenHi
  | lenLo
  | body
  | stopped
deriving DecidableEq, Repr

/-- The encoding of a parser state (R22). -/
def stCode : ParserState → BitVec 3
  | .awaitDelim => 0
  | .lenHi => 1
  | .lenLo => 2
  | .body => 3
  | .stopped => 4

/-- The parser state an encoding names; encodings 5, 6 and 7 name none (R22). -/
def parserState? (v : BitVec 3) : Option ParserState :=
  match v.toNat with
  | 0 => some .awaitDelim
  | 1 => some .lenHi
  | 2 => some .lenLo
  | 3 => some .body
  | 4 => some .stopped
  | _ => none

/-- `stop = NONE` (R28). -/
def stopNone : BitVec 2 := 0

/-- `stop = TIMEOUT` (R28). -/
def stopTimeout : BitVec 2 := 1

/-- `stop = FAULT` (R28). -/
def stopFault : BitVec 2 := 2

/-- The 2-bit code of a frame kind (R77). -/
def kindCode : FrameKind → BitVec 2
  | .other => 0
  | .ioSample => 1
  | .atResponse => 2
  | .short => 3

/-- The 3-bit code of what `evt` carries; 0 is no event (R210). -/
def eventCode : Option Event → BitVec 3
  | none => 0
  | some (.frameOk _) => 1
  | some (.malformedFrame _) => 2
  | some (.badChecksum _) => 3
  | some .readTimeout => 4
  | some .transportFault => 5

/-- A logger's levels (R218). -/
inductive LogLevel where
  | frameSummary
  | informational
  | warning
  | error
deriving DecidableEq, Repr

/-- The severity a logger gives an event, or no log at all (R218). DESIGN CHOICE, log entry 22: a `FRAME_OK`
of kind `SHORT` has no log, as R196 says of the host, where R218 exempts only kind `OTHER` from the summary;
and `TRANSPORT_FAULT`, for which R218 names no level, has none. -/
def logLevel? : Event → Option LogLevel
  | .frameOk r => if r.kind = .other ∨ r.kind = .short then none else some .frameSummary
  | .malformedFrame _ => some .informational
  | .badChecksum _ => some .warning
  | .readTimeout => some .error
  | .transportFault => none

end Sys2Proof.Machine
end

