-- ==== Sys2Proof/Machine/Classify.lean ====
section
/-!
DEFINITION. The field extractor's functions and CLASSIFY (spec/43_field_extractor.md R170 to R174,
spec/41_frame_decoder.md R127, spec/30_encoding.md R64, R76). They hold no state (R34).
-/

namespace Sys2Proof.Machine

/-- The switch state of a `0x92` payload that reaches its sample: `(mask & sample) & 0x0008`, the low 8
bits (R170). -/
def switchState (p : List Byte) : Byte :=
  ((ioMask p &&& ioSample p) &&& Config.switchMask).setWidth 8

/-- `floor(raw * 1200 / 1024)`, 17 bits (R171, R173). -/
def millivoltsOf (raw : Half) : BitVec 17 :=
  BitVec.ofNat 17 (raw.toNat * Config.vNum / Config.vDen)

/-- The voltage of a `%V` response payload that reaches its value (R171). -/
def voltage (p : List Byte) : BitVec 17 := millivoltsOf (atValue p)

/-- `EXTRACT_SWITCH`'s guards, in their order, then its value (R170, R174). -/
def extractSwitchOf (p : List Byte) : Except RefuseReason Byte :=
  if p.length < Config.minIoPayload then .error .shortPayload
  else if byteAt p 0 ≠ Config.typeIoSample then .error .wrongFrameType
  else .ok (switchState p)

/-- `EXTRACT_VOLTAGE`'s guards, in their order, then its value (R171, R172, R174). -/
def extractVoltageOf (p : List Byte) : Except RefuseReason (BitVec 17) :=
  if p.length < Config.minVoltagePayload then .error .shortPayload
  else if byteAt p 0 ≠ Config.typeAtResponse then .error .wrongFrameType
  else if atCommand p ≠ Config.cmdPctV then .error .notVoltageResponse
  else .ok (voltage p)

/-- The record of kind `OTHER`: `0x17`, an unrecognised type, or no type at all (R64, R127). -/
def otherRecord (p : List Byte) : FrameRecord :=
  { kind := .other, type := p.head?, payload := p, sw := 0, cmd := 0, vvalid := false, mv := 0 }

/-- The record of kind `SHORT`: the payload does not reach its type's fields (R76, R127). -/
def shortRecord (p : List Byte) : FrameRecord :=
  { kind := .short, type := p.head?, payload := p, sw := 0, cmd := 0, vvalid := false, mv := 0 }

/-- CLASSIFY's arm for type `0x92` (R127). -/
def ioRecord (p : List Byte) : FrameRecord :=
  if p.length < Config.minIoPayload then shortRecord p
  else
    { kind := .ioSample, type := p.head?, payload := p, sw := switchState p, cmd := 0,
      vvalid := false, mv := 0 }

/-- CLASSIFY's arm for type `0x97` (R127). -/
def atRecord (p : List Byte) : FrameRecord :=
  if p.length < Config.minAtPayload then shortRecord p
  else if atCommand p ≠ Config.cmdPctV then
    { kind := .atResponse, type := p.head?, payload := p, sw := 0, cmd := atCommand p,
      vvalid := false, mv := 0 }
  else if p.length < Config.minVoltagePayload then shortRecord p
  else
    { kind := .atResponse, type := p.head?, payload := p, sw := 0, cmd := atCommand p,
      vvalid := true, mv := voltage p }

/-- `CLASSIFY p`: the decoded record of a validated payload (R127). -/
def classify (p : List Byte) : FrameRecord :=
  match p with
  | [] => otherRecord []
  | t :: rest =>
    if t = Config.typeIoSample then ioRecord (t :: rest)
    else if t = Config.typeAtResponse then atRecord (t :: rest)
    else otherRecord (t :: rest)

end Sys2Proof.Machine
end

