-- ==== Sys2Proof/Machine/Ops.lean ====
section
/-!
DEFINITION. The named operations over the state: what a step puts on the output ports, the refusal of a
request (R225), ending the receive side (the block's counterpart of taking an exception, R214, R215),
`RESET` beside it (the only way back, R216, R240), and the parser's transitions (R121 to R130).
-/

namespace Sys2Proof.Machine

/-! ### Output ports -/

/-- A step begins with nothing on the output ports: no event, result or frame is latched (R217, R243). -/
def State.quiet (s : State) : State := { s with evt := none, res := none, tx := none }

/-- `emit E(args)` (R9). -/
def State.emit (e : Event) (s : State) : State := { s with evt := some e }

/-- A result on `res` (R26). -/
def State.answer (r : Result) (s : State) : State := { s with res := some r }

/-- `out(bytes)`: a frame on `tx` (R9). -/
def State.transmit (f : List Byte) (s : State) : State := { s with tx := some f }

/-- `refuse(reason)`: the reason on `res`, no state change, no event, the run marked as refused
(R9, R225; log entry 4). -/
def State.refuse (r : RefuseReason) (s : State) : State :=
  { s with res := some (.refusal r), runRefused := true }

/-! ### Parser registers -/

/-- "Clear": `buf`, `len`, `cnt` and `sum` (spec/41_frame_decoder.md, its opening). -/
def State.clear (s : State) : State := { s with buf := [], len := 0, cnt := 0, sum := 0 }

/-- Back to `AWAIT_DELIM`, cleared: every frame ends so (R126, R215). -/
def State.awaitDelim (s : State) : State := { s.clear with st := stCode .awaitDelim }

/-- A terminal event: it is emitted, the receive side stops for `why`, and a partial frame is discarded
(R128, R129, R214, R215). -/
def State.stopReceive (e : Event) (why : BitVec 2) (s : State) : State :=
  { s.clear.emit e with st := stCode .stopped, stop := why }

/-- `RESET`: every parser register at its reset value; the strap is not touched (R32, R240). -/
def State.restart (s : State) : State :=
  { s.clear with st := stCode .awaitDelim, stop := stopNone, resetDone := true }

/-! ### Guards -/

/-- Any step other than `RESET` before the first `RESET` is a fault; after it, the step runs with nothing
on the output ports yet (R241). -/
def afterReset (s : State) (k : State → StepResult) : StepResult :=
  if s.resetDone then k s.quiet else .fault .notReset

/-- An `rx` symbol that is not reserved: `STOPPED` ignores it (R130), an `st` encoding of no meaning is a
fault (R22, R120), and in a live state the symbol has its effect (R120). -/
def whileLive (s : State) (k : ParserState → State → State) : StepResult :=
  match parserState? s.st with
  | none => .fault .badParserState
  | some .stopped => .next s
  | some live => .next (k live s)

/-! ### The receive state machine -/

/-- `AWAIT_DELIM`, the delimiter: a frame starts (R121). -/
def State.startFrame (s : State) : State :=
  { s with buf := [Config.delim], st := stCode .lenHi }

/-- `AWAIT_DELIM`, any other byte: `MALFORMED_FRAME` (R122). -/
def State.malformed (b : Byte) (s : State) : State := s.emit (.malformedFrame b)

/-- `LEN_HI`: the high length byte (R123). -/
def State.takeLenHi (b : Byte) (s : State) : State :=
  { s with len := lenWithHi b, buf := s.buf ++ [b], st := stCode .lenLo }

/-- `LEN_LO`: the low length byte (R124). -/
def State.takeLenLo (b : Byte) (s : State) : State :=
  { s with len := lenWithLo s.len b, buf := s.buf ++ [b], cnt := 0, sum := 0, st := stCode .body }

/-- `BODY`, not the last body byte (R125). -/
def State.takeBody (b : Byte) (s : State) : State :=
  { s with buf := s.buf ++ [b], cnt := s.cnt + 1, sum := s.sum + b }

/-- The next body byte is not the last one: `s.cnt + 1 < s.len + 1`, over naturals (R120, R125;
log entry 12). -/
def State.moreBody (s : State) : Bool := decide (s.cnt.toNat + 1 < s.len.toNat + 1)

/-- The verdict on the last body byte: `(s.sum + b) mod 256 == 0xFF` (R126, R133; log entry 13). -/
def State.verdict (b : Byte) (s : State) : Bool := s.sum + b == 0xFF

/-- The payload of the frame that the last body byte `b` ends: `f[3 .. 3 + s.len)` (R126). -/
def State.completedPayload (b : Byte) (s : State) : List Byte :=
  payloadOf (s.buf ++ [b]) s.len.toNat

/-- A validated frame ends with `FRAME_OK`, the parser back in `AWAIT_DELIM`, cleared (R126). -/
def State.acceptFrame (r : FrameRecord) (s : State) : State := s.awaitDelim.emit (.frameOk r)

/-- `BODY`, the last body byte: the checksum is decided first, then the frame is classified (R126, R213). -/
def State.finishFrame (b : Byte) (s : State) : State :=
  if s.verdict b then s.acceptFrame (classify (s.completedPayload b))
  else s.awaitDelim.emit (.badChecksum (s.buf ++ [b]))

/-- `Byte(b)` in a live state (R120). -/
def State.takeByte (b : Byte) (live : ParserState) (s : State) : State :=
  match live with
  | .awaitDelim => if b = Config.delim then s.startFrame else s.malformed b
  | .lenHi => s.takeLenHi b
  | .lenLo => s.takeLenLo b
  | .body => if s.moreBody then s.takeBody b else s.finishFrame b
  | .stopped => s

/-- `Byte(b)` on `rx` (R120). -/
def receiveByte (b : Byte) (s : State) : StepResult :=
  afterReset s fun s => whileLive s (State.takeByte b)

/-- A terminal `rx` symbol (R128, R129). -/
def receiveEnd (e : Event) (why : BitVec 2) (s : State) : StepResult :=
  afterReset s fun s => whileLive s fun _ s => s.stopReceive e why

/-- A validated frame, as one instruction: `FRAME_OK` with its record (R126, R127; log entry 7). -/
def receiveFrame (r : FrameRecord) (s : State) : StepResult :=
  afterReset s fun s => whileLive s fun _ s => s.acceptFrame r

/-! ### Requests -/

/-- A refused request (R225); before the first RESET it is the fault (R241; log entry 11). -/
def refuseRequest (r : RefuseReason) (s : State) : StepResult :=
  afterReset s fun s => .next (s.refuse r)

/-- An `op` request: its result on `res`, or its refusal; no parser state changes (R50, R53, R71). -/
def answerRequest (o : Except RefuseReason Result) (s : State) : StepResult :=
  match o with
  | .ok r => afterReset s fun s => .next (s.answer r)
  | .error r => refuseRequest r s

end Sys2Proof.Machine
end

