-- ==== Sys2Proof/Machine/Codec.lean ====
section
/-!
DEFINITION. The meanings of the checksum codec's requests (spec/40_checksum.md R100, R101) and of the
reserved `op` codes (spec/30_encoding.md R72).
-/

namespace Sys2Proof.Machine

/-- `COMPUTE_CHECKSUM p` (R100): total on byte lists (log entry 14). -/
def execComputeChecksum (p : List Byte) (s : State) : StepResult :=
  answerRequest (.ok (.byte (checksumOf p))) s

/-- `VERIFY_CHECKSUM f` (R101): total on byte lists. -/
def execVerifyChecksum (f : List Byte) (s : State) : StepResult :=
  answerRequest (.ok (.bit (checksumHolds f))) s

/-- `OP_RESERVED_0`: refused (R72). -/
def execOpReserved0 (s : State) : StepResult := refuseRequest .reservedOp s

/-- `OP_RESERVED_6_7`: refused (R72). -/
def execOpReserved67 (_lo : BitVec 1) (s : State) : StepResult := refuseRequest .reservedOp s

/-- `OP_RESERVED_8_F`: refused (R72). -/
def execOpReserved8F (_lo : BitVec 3) (s : State) : StepResult := refuseRequest .reservedOp s

end Sys2Proof.Machine
end

