-- ==== Sys2Proof/Machine/Control.lean ====
section
/-!
DEFINITION. The meaning of `RESET` (spec/70_reset_and_hazards.md R240).
-/

namespace Sys2Proof.Machine

/-- `RESET`: it works from every state, the unreset one and `STOPPED` included, and emits nothing (R240). -/
def execReset (s : State) : StepResult := .next s.quiet.restart

end Sys2Proof.Machine
end

