-- ==== Sys2Proof/Machine/Encoder.lean ====
section
/-!
DEFINITION. The frame builder and the meanings of `BUILD_REMOTE_AT` and of the two command codes the block
knows (spec/42_command_encoder.md R150 to R154; spec/30_encoding.md R65, R68, R69).
-/

namespace Sys2Proof.Machine

/-- The payload of a built frame (R65, R150). -/
def remoteAtPayload (addr : BitVec 64) (c q : List Byte) (disableAck : Bool) : List Byte :=
  [Config.typeRemoteAt, Config.frameId] ++ be64Bytes addr ++ be16Bytes Config.destAddr16 ++
    [optionsByte disableAck] ++ c ++ q

/-- `buildRemoteATCommand`: the operand checks, in R150's order (log entry 17), then the frame (R151). -/
def buildFrame (addr : BitVec 64) (c q : List Byte) (disableAck : Bool) : Except RefuseReason (List Byte) :=
  if c.length ≠ 2 then .error .badCommandCode
  else if q.length > Config.maxParamBytes then .error .lengthOverflow
  else .ok (wireFrame (remoteAtPayload addr c q disableAck))

/-- A build request: the frame on `res` and on `tx`, or its refusal (R150, R151). -/
def requestFrame (c q : List Byte) (disableAck : Bool) (s : State) : StepResult :=
  match buildFrame s.destAddr64 c q disableAck with
  | .ok f => afterReset s fun s => .next ((s.answer (.bytes f)).transmit f)
  | .error r => refuseRequest r s

/-- `BUILD_REMOTE_AT c, q, disableAck` (R150, R151). -/
def execBuildRemoteAt (c q : List Byte) (disableAck : Bool) (s : State) : StepResult :=
  requestFrame c q disableAck s

/-- `AT_CMD_D0`: a build request for `D0` (R68, R150). -/
def execAtCmdD0 (q : List Byte) (disableAck : Bool) (s : State) : StepResult :=
  requestFrame (be16Bytes Config.cmdD0) q disableAck s

/-- `AT_CMD_PCT_V`: a build request for `%V` (R68, R150). -/
def execAtCmdPctV (q : List Byte) (disableAck : Bool) (s : State) : StepResult :=
  requestFrame (be16Bytes Config.cmdPctV) q disableAck s

end Sys2Proof.Machine
end

