-- ==== Sys2Proof/Machine/Extractor.lean ====
section
/-!
DEFINITION. The meanings of the field extractor's requests (spec/43_field_extractor.md R170 to R174).
-/

namespace Sys2Proof.Machine

/-- `EXTRACT_SWITCH p` (R170, R174). -/
def execExtractSwitch (p : List Byte) (s : State) : StepResult :=
  answerRequest ((extractSwitchOf p).map Result.byte) s

/-- `EXTRACT_VOLTAGE p` (R171, R174). -/
def execExtractVoltage (p : List Byte) (s : State) : StepResult :=
  answerRequest ((extractVoltageOf p).map Result.millivolts) s

end Sys2Proof.Machine
end

