-- ==== Sys2Proof/Machine/Frames.lean ====
section
/-!
DEFINITION. The meanings of the `frame_type` rows: a validated frame of the row's type arrives
(spec/30_encoding.md R64 to R67, R76; spec/41_frame_decoder.md R126, R127). Log entry 7 says in which
states a step runs them.
-/

namespace Sys2Proof.Machine

/-- `TYPE_REMOTE_AT_COMMAND`: received inbound it is kind `OTHER` (R64, R127, R226). -/
def execTypeRemoteAtCommand (rest : List Byte) (s : State) : StepResult :=
  receiveFrame (otherRecord (Config.typeRemoteAt :: rest)) s

/-- `TYPE_IO_DATA_SAMPLE`: kind `IO_SAMPLE` with the switch state, or `SHORT` (R127). -/
def execTypeIoDataSample (rest : List Byte) (s : State) : StepResult :=
  receiveFrame (ioRecord (Config.typeIoSample :: rest)) s

/-- `TYPE_AT_COMMAND_RESPONSE`: kind `AT_RESPONSE`, with the voltage when the command is `%V`, or `SHORT`
(R127). -/
def execTypeAtCommandResponse (rest : List Byte) (s : State) : StepResult :=
  receiveFrame (atRecord (Config.typeAtResponse :: rest)) s

/-- `TYPE_UNRECOGNIZED`: a valid frame of kind `OTHER`, never an error (R73, R127, R226). -/
def execTypeUnrecognized (p : List Byte) (s : State) : StepResult := receiveFrame (otherRecord p) s

end Sys2Proof.Machine
end

