-- ==== Sys2Proof/Machine/Receive.lean ====
section
/-!
DEFINITION. The meanings of the `rx` rows and of the `frame_byte` rows (spec/41_frame_decoder.md R120 to
R130, R134; spec/30_encoding.md R72).
-/

namespace Sys2Proof.Machine

/-- `RX_BYTE`: the whole dispatch of a byte by the parser state (R120 to R126, R130). -/
def execRxByte (b : Byte) (s : State) : StepResult := receiveByte b s

/-- `RX_TIMEOUT` (R128; R130 in `STOPPED`). -/
def execRxTimeout (s : State) : StepResult := receiveEnd .readTimeout stopTimeout s

/-- `RX_FAULT` (R129; R130 in `STOPPED`). -/
def execRxFault (s : State) : StepResult := receiveEnd .transportFault stopFault s

/-- `RX_RESERVED`: refused before any state test (R72, R120, R213). -/
def execRxReserved (_sym : BitVec 10) (s : State) : StepResult := refuseRequest .reservedRxSymbol s

/-- `DELIMITER`: in `AWAIT_DELIM` the byte starts a frame (R121); in every other state it is the data byte
`0x7E` (R134). -/
def execDelimiter (s : State) : StepResult := receiveByte Config.delim s

/-- `NON_DELIMITER`: in `AWAIT_DELIM` the byte is a malformed frame (R122); in every other state it is a
data byte (R134). -/
def execNonDelimiter (b : Byte) (s : State) : StepResult := receiveByte b s

end Sys2Proof.Machine
end

