-- ==== Sys2Proof/Machine/Dispatch.lean ====
section
/-!
DEFINITION. The dispatch of an instruction to its meaning: one arm per row of spec/opcode_table.json.
-/

namespace Sys2Proof.Machine

def exec (i : Instr) (s : State) : Host.Outcome State Fault Refusal :=
  match i with
  | .rxByte b => Sys2Proof.Machine.execRxByte b s
  | .rxTimeout => Sys2Proof.Machine.execRxTimeout s
  | .rxFault => Sys2Proof.Machine.execRxFault s
  | .rxReserved sym => Sys2Proof.Machine.execRxReserved sym s
  | .computeChecksum p => Sys2Proof.Machine.execComputeChecksum p s
  | .verifyChecksum f => Sys2Proof.Machine.execVerifyChecksum f s
  | .buildRemoteAt c q disableAck => Sys2Proof.Machine.execBuildRemoteAt c q disableAck s
  | .extractSwitch p => Sys2Proof.Machine.execExtractSwitch p s
  | .extractVoltage p => Sys2Proof.Machine.execExtractVoltage p s
  | .opReserved0 => Sys2Proof.Machine.execOpReserved0 s
  | .opReserved67 lo => Sys2Proof.Machine.execOpReserved67 lo s
  | .opReserved8F lo => Sys2Proof.Machine.execOpReserved8F lo s
  | .reset => Sys2Proof.Machine.execReset s
  | .delimiter => Sys2Proof.Machine.execDelimiter s
  | .nonDelimiter b => Sys2Proof.Machine.execNonDelimiter b s
  | .typeRemoteAtCommand rest => Sys2Proof.Machine.execTypeRemoteAtCommand rest s
  | .typeIoDataSample rest => Sys2Proof.Machine.execTypeIoDataSample rest s
  | .typeAtCommandResponse rest => Sys2Proof.Machine.execTypeAtCommandResponse rest s
  | .typeUnrecognized p => Sys2Proof.Machine.execTypeUnrecognized p s
  | .atCmdD0 q disableAck => Sys2Proof.Machine.execAtCmdD0 q disableAck s
  | .atCmdPctV q disableAck => Sys2Proof.Machine.execAtCmdPctV q disableAck s

end Sys2Proof.Machine
end

