-- ==== Sys2Proof/WellFormed.lean ====
section
/-!
DEFINITION. Which terms of `Instr` are instructions the table can encode. Operand values that the block
itself refuses (a command code of the wrong length, a short payload) are well formed: the refusal is the
instruction's own outcome (spec/60_exceptions.md R225).
-/

namespace Sys2Proof

/-- The reserved `rx` symbols of R72: kind `11`, or kind `01` or `10` with nonzero data. -/
def reservedRx (sym : BitVec 10) : Bool :=
  let kind := sym.extractLsb' 8 2
  kind == 3 || ((kind == 1 || kind == 2) && sym.extractLsb' 0 8 != 0)

/-- The largest payload the 16-bit length field allows (R62). -/
abbrev maxPayload : Nat := 65535

/-- The instruction is one the opcode table can encode. -/
def Instr.wellFormed : Instr → Bool
  | .rxByte _ => true
  | .rxTimeout => true
  | .rxFault => true
  | .rxReserved sym => reservedRx sym
  | .computeChecksum p => decide (p.length ≤ maxPayload)
  | .verifyChecksum _ => true
  | .buildRemoteAt _ _ _ => true
  | .extractSwitch _ => true
  | .extractVoltage _ => true
  | .opReserved0 => true
  | .opReserved67 _ => true
  | .opReserved8F _ => true
  | .reset => true
  | .delimiter => true
  | .nonDelimiter b => b != Config.delim
  | .typeRemoteAtCommand rest => decide (rest.length + 1 ≤ maxPayload)
  | .typeIoDataSample rest => decide (rest.length + 1 ≤ maxPayload)
  | .typeAtCommandResponse rest => decide (rest.length + 1 ≤ maxPayload)
  | .typeUnrecognized p =>
    decide (p.length ≤ maxPayload) && p.head? != some Config.typeRemoteAt &&
      p.head? != some Config.typeIoSample && p.head? != some Config.typeAtResponse
  | .atCmdD0 _ _ => true
  | .atCmdPctV _ _ => true

end Sys2Proof
end

