-- ==== Sys2Proof/Decode.lean ====
section
/-!
DEFINITION. Decoding and encoding: the words of the table's six formats (spec/30_encoding.md R64, R68, R71,
R72), the whole frame as bytes on the wire (R60 to R63, R74), and the table's numbering of its words for
the host (`decodeTableWord`). Both decoders are total; what they do not accept they reject by name.
-/

namespace Sys2Proof

/-! ### The rows of the opcode table -/

/-- The six formats of spec/opcode_table.json. -/
inductive Format where
  | rx
  | op
  | rst
  | frameByte
  | frameType
  | atCmd
deriving DecidableEq, Repr

/-- A row of spec/opcode_table.json: a word of the format belongs to the row when its bits under `mask`
are `pattern`; where two rows of a format match, the smaller `priority` wins (the table's notes). -/
structure Row where
  mnemonic : String
  format : Format
  width : Nat
  pattern : Nat
  mask : Nat
  priority : Nat
deriving DecidableEq, Repr

/-- The word `w` of the row's format has the row's fixed bits. -/
def rowMatches (r : Row) (w : Nat) : Bool := w &&& r.mask == r.pattern

/-- The row that an instruction's constructor stands for. -/
def rowOf : Instr → Row
  | .rxByte _ => ⟨"RX_BYTE", .rx, 10, 0x000, 0x300, 0⟩
  | .rxTimeout => ⟨"RX_TIMEOUT", .rx, 10, 0x100, 0x3FF, 0⟩
  | .rxFault => ⟨"RX_FAULT", .rx, 10, 0x200, 0x3FF, 0⟩
  | .rxReserved _ => ⟨"RX_RESERVED", .rx, 10, 0x300, 0x300, 0⟩
  | .computeChecksum _ => ⟨"COMPUTE_CHECKSUM", .op, 4, 0x1, 0xF, 0⟩
  | .verifyChecksum _ => ⟨"VERIFY_CHECKSUM", .op, 4, 0x2, 0xF, 0⟩
  | .buildRemoteAt _ _ _ => ⟨"BUILD_REMOTE_AT", .op, 4, 0x3, 0xF, 0⟩
  | .extractSwitch _ => ⟨"EXTRACT_SWITCH", .op, 4, 0x4, 0xF, 0⟩
  | .extractVoltage _ => ⟨"EXTRACT_VOLTAGE", .op, 4, 0x5, 0xF, 0⟩
  | .opReserved0 => ⟨"OP_RESERVED_0", .op, 4, 0x0, 0xF, 0⟩
  | .opReserved67 _ => ⟨"OP_RESERVED_6_7", .op, 4, 0x6, 0xE, 0⟩
  | .opReserved8F _ => ⟨"OP_RESERVED_8_F", .op, 4, 0x8, 0x8, 0⟩
  | .reset => ⟨"RESET", .rst, 1, 0x1, 0x1, 0⟩
  | .delimiter => ⟨"DELIMITER", .frameByte, 8, 0x7E, 0xFF, 0⟩
  | .nonDelimiter _ => ⟨"NON_DELIMITER", .frameByte, 8, 0x00, 0x00, 1⟩
  | .typeRemoteAtCommand _ => ⟨"TYPE_REMOTE_AT_COMMAND", .frameType, 8, 0x17, 0xFF, 0⟩
  | .typeIoDataSample _ => ⟨"TYPE_IO_DATA_SAMPLE", .frameType, 8, 0x92, 0xFF, 0⟩
  | .typeAtCommandResponse _ => ⟨"TYPE_AT_COMMAND_RESPONSE", .frameType, 8, 0x97, 0xFF, 0⟩
  | .typeUnrecognized _ => ⟨"TYPE_UNRECOGNIZED", .frameType, 8, 0x00, 0x00, 1⟩
  | .atCmdD0 _ _ => ⟨"AT_CMD_D0", .atCmd, 16, 0x4430, 0xFFFF, 0⟩
  | .atCmdPctV _ _ => ⟨"AT_CMD_PCT_V", .atCmd, 16, 0x2556, 0xFFFF, 0⟩

/-! ### Words -/

/-- The `rx` symbol `Byte(b)`: kind `00` (R71). -/
def rxByteSym (b : Byte) : BitVec 10 := (0 : BitVec 2) ++ b

/-- The `rx` symbol `Timeout` (R71). -/
def rxTimeoutSym : BitVec 10 := 0x100

/-- The `rx` symbol `Fault` (R71). -/
def rxFaultSym : BitVec 10 := 0x200

/-- The byte an `rx` symbol carries, if it is a `Byte` (R71). -/
def rxData? (sym : BitVec 10) : Option Byte :=
  if sym.extractLsb' 8 2 = 0 then some (sym.extractLsb' 0 8) else none

/-- An `rx` symbol as an instruction (R71, R72). -/
def decodeRx (sym : BitVec 10) : Instr :=
  match rxData? sym with
  | some b => .rxByte b
  | none =>
    if sym = rxTimeoutSym then .rxTimeout
    else if sym = rxFaultSym then .rxFault
    else .rxReserved sym

/-- An `op` request as an instruction (R71, R72). -/
def decodeOp (code : BitVec 4) (a : OpArgs) : Instr :=
  match code.toNat with
  | 0 => .opReserved0
  | 1 => .computeChecksum a.bytes
  | 2 => .verifyChecksum a.bytes
  | 3 => .buildRemoteAt a.code a.bytes a.disableAck
  | 4 => .extractSwitch a.bytes
  | 5 => .extractVoltage a.bytes
  | 6 => .opReserved67 0
  | 7 => .opReserved67 1
  | _ => .opReserved8F (code.extractLsb' 0 3)

/-- The frame type is payload byte 0 (R64). -/
def decodeType (p : List Byte) : Instr :=
  match p with
  | [] => .typeUnrecognized []
  | t :: rest =>
    if t = Config.typeRemoteAt then .typeRemoteAtCommand rest
    else if t = Config.typeIoSample then .typeIoDataSample rest
    else if t = Config.typeAtResponse then .typeAtCommandResponse rest
    else .typeUnrecognized (t :: rest)

/-- A command code to build (R68): the builder accepts any two bytes, so a code that has no row of its own
is a plain build request. -/
def decodeAtCmd (code : Half) (q : List Byte) (disableAck : Bool) : Instr :=
  if code = Config.cmdD0 then .atCmdD0 q disableAck
  else if code = Config.cmdPctV then .atCmdPctV q disableAck
  else .buildRemoteAt (Machine.be16Bytes code) q disableAck

/-- Decoding of any word of the six formats: an instruction, or the one encoding that is no instruction of
the table, `rst = 0`, rejected by its name (R72). -/
def decode : Word → Except RefuseReason Instr
  | .port (.rx sym) => .ok (decodeRx sym)
  | .port (.op code a) => .ok (decodeOp code a)
  | .port (.rst bit) => if bit = 1 then .ok .reset else .error .reservedRst
  | .frameByte b => .ok (if b = Config.delim then .delimiter else .nonDelimiter b)
  | .frameType p => .ok (decodeType p)
  | .atCmd code q disableAck => .ok (decodeAtCmd code q disableAck)

/-! ### The encoder -/

/-- An `op` request with one byte-list operand (R71). -/
def opWord (code : BitVec 4) (p : List Byte) : Word := .port (.op code ⟨p, [], false⟩)

/-- The word of a well-formed instruction, from the same tables (R64, R68, R71, R72). -/
def encode : Instr → Word
  | .rxByte b => .port (.rx (rxByteSym b))
  | .rxTimeout => .port (.rx rxTimeoutSym)
  | .rxFault => .port (.rx rxFaultSym)
  | .rxReserved sym => .port (.rx sym)
  | .computeChecksum p => opWord 0x1 p
  | .verifyChecksum f => opWord 0x2 f
  | .buildRemoteAt c q disableAck => .port (.op 0x3 ⟨q, c, disableAck⟩)
  | .extractSwitch p => opWord 0x4 p
  | .extractVoltage p => opWord 0x5 p
  | .opReserved0 => opWord 0x0 []
  | .opReserved67 lo => opWord (0x3#3 ++ lo) []
  | .opReserved8F lo => opWord (0x1#1 ++ lo) []
  | .reset => .port (.rst 1)
  | .delimiter => .frameByte Config.delim
  | .nonDelimiter b => .frameByte b
  | .typeRemoteAtCommand rest => .frameType (Config.typeRemoteAt :: rest)
  | .typeIoDataSample rest => .frameType (Config.typeIoSample :: rest)
  | .typeAtCommandResponse rest => .frameType (Config.typeAtResponse :: rest)
  | .typeUnrecognized p => .frameType p
  | .atCmdD0 q disableAck => .atCmd Config.cmdD0 q disableAck
  | .atCmdPctV q disableAck => .atCmd Config.cmdPctV q disableAck

/-- The bits of a word that the table numbers, in the word's own format; a frame with no type byte has
none. -/
def tableBits : Word → Option (Format × Nat)
  | .port (.rx sym) => some (.rx, sym.toNat)
  | .port (.op code _) => some (.op, code.toNat)
  | .port (.rst bit) => some (.rst, bit.toNat)
  | .frameByte b => some (.frameByte, b.toNat)
  | .frameType [] => none
  | .frameType (t :: _) => some (.frameType, t.toNat)
  | .atCmd code _ _ => some (.atCmd, code.toNat)

/-- The transactions on the ports that carry a word to the block: a frame's bytes one per step (R47), a
build request as one `op` request (R71). -/
def transactionsOf : Word → List Transaction
  | .port t => [t]
  | .frameByte b => [.rx (rxByteSym b)]
  | .frameType p => (Machine.wireFrame p).map fun b => .rx (rxByteSym b)
  | .atCmd code q disableAck => [.op 0x3 ⟨q, Machine.be16Bytes code, disableAck⟩]

/-! ### The frame on the wire -/

/-- Why a byte string does not begin with a frame. -/
inductive FrameReject where
  /-- Its first byte is not the delimiter (R60). -/
  | notDelimiter
  /-- It ends before the checksum byte at frame offset `3 + L` (R74). -/
  | truncated
  /-- Its checksum does not hold (R101). -/
  | badChecksum
deriving DecidableEq, Repr

/-- The bytes of the frame that an instruction of format `frame_type` is; nothing for the others (R60). -/
def encodeFrame (i : Instr) : List Byte :=
  match encode i with
  | .frameType p => Machine.wireFrame p
  | _ => []

/-- Decoding of any byte string: the frame at its front, as an instruction, with the bytes after it
(R60, R61, R64, R74). -/
def decodeFrame (bytes : List Byte) : Except FrameReject (Instr × List Byte) :=
  match bytes with
  | [] => .error .truncated
  | d :: tail =>
    if d ≠ Config.delim then .error .notDelimiter
    else
      match tail with
      | hi :: lo :: body =>
        let L := (Machine.be16 hi lo).toNat
        if body.length < L + 1 then .error .truncated
        else if Machine.checksumHolds (d :: hi :: lo :: body.take (L + 1)) then
          .ok (decodeType (body.take L), body.drop (L + 1))
        else .error .badChecksum
      | _ => .error .truncated

/-! ### The table's numbering, for the host -/

/-- The operands of a request whose operand bits are all zero: no byte in a list, the two-byte command
code `00 00`, `disableAck = 0`. -/
def zeroArgs : OpArgs := ⟨[], [0, 0], false⟩

/-- A payload of type `t` with every operand byte zero, as long as the type's last field needs (R65 to R67). -/
def zeroPayload (t : Byte) : List Byte :=
  if t = Config.typeIoSample then t :: List.replicate 17 0
  else if t = Config.typeAtResponse then t :: List.replicate 16 0
  else t :: List.replicate 14 0

/-- The word that spec/opcode_table.json numbers `w` in a row of `nbits` bits. The table numbers the six
formats apart, but the rows' widths do not always tell them apart: log entry 8 says which format a number
that several formats share is read in. -/
def tableWord (nbits w : Nat) : Word :=
  if nbits ≤ 1 then .port (.rst (BitVec.ofNat 1 w))
  else if nbits ≤ 4 then .port (.op (BitVec.ofNat 4 w) zeroArgs)
  else if nbits ≤ 8 then
    if w < 16 then .port (.op (BitVec.ofNat 4 w) zeroArgs)
    else
      let b := BitVec.ofNat 8 w
      if b = Config.typeRemoteAt ∨ b = Config.typeIoSample ∨ b = Config.typeAtResponse then
        .frameType (zeroPayload b)
      else .frameByte b
  else if w < 1024 then .port (.rx (BitVec.ofNat 10 w))
  else .atCmd (BitVec.ofNat 16 w) [] false

/-- The instruction the decoder reads from the table's word `w` of `nbits` bits. -/
def decodeTableWord (nbits w : Nat) : Option Instr :=
  match decode (tableWord nbits w) with
  | .ok i => some i
  | .error _ => none

end Sys2Proof
end

