-- ==== Sys2Proof/Machine/Fetch.lean ====
section
/-!
DEFINITION. Fetching an instruction: the next transaction on the ports, seen at the level of the frames by
the parser state it meets (spec/41_frame_decoder.md R120, the table's notes; log entry 7), and placing a
table word where the next step fetches it (log entry 20). The block has no program counter (R21).
-/

namespace Sys2Proof.Machine

/-- The command codes with a row of their own (R68). -/
def knownCommand (c : List Byte) : Option Half :=
  match c with
  | [c0, c1] =>
    if be16 c0 c1 = Config.cmdD0 ∨ be16 c0 c1 = Config.cmdPctV then some (be16 c0 c1) else none
  | _ => none

/-- What `Byte(b)` is in the parser state it meets: at frame offset 0 a delimiter or not (R121, R122); as
the last body byte of a frame whose checksum holds, that frame (R126, R127); else a byte of `rx`. -/
def viewByte (s : State) (b : Byte) : Word :=
  match parserState? s.st with
  | some .awaitDelim => .frameByte b
  | some .body =>
    if s.moreBody then .port (.rx (rxByteSym b))
    else if s.verdict b then .frameType (s.completedPayload b)
    else .port (.rx (rxByteSym b))
  | _ => .port (.rx (rxByteSym b))

/-- The word of the table that a transaction is in the state it meets. -/
def viewTransaction (s : State) (t : Transaction) : Word :=
  match t with
  | .rx sym =>
    match rxData? sym with
    | some b => viewByte s b
    | none => .port (.rx sym)
  | .op code a =>
    if code = 0x3 then
      match knownCommand a.code with
      | some c => .atCmd c a.bytes a.disableAck
      | none => .port (.op code a)
    else .port (.op code a)
  | .rst bit => .port (.rst bit)

/-- The transaction leaves the queue of those to come (R50). -/
def State.popInput (s : State) : State := { s with inputs := s.inputs.tail }

/-- A transaction is put before those to come. -/
def State.pushInput (t : Transaction) (s : State) : State := { s with inputs := t :: s.inputs }

/-- The parser in `LEN_HI`: a delimiter has been received (R121). -/
def State.inLenHi (s : State) : State := s.clear.startFrame

/-- The parser in `BODY` with the whole payload `p` received, the checksum byte to come (R31). -/
def State.atChecksum (p : List Byte) (s : State) : State :=
  { s with
    st := stCode .body
    len := BitVec.ofNat 16 p.length
    cnt := BitVec.ofNat 17 p.length
    sum := BitVec.ofNat 8 (sumBytes p)
    buf := [Config.delim] ++ be16Bytes (BitVec.ofNat 16 p.length) ++ p }

/-- The word where the next step fetches it: its transaction before those to come, and the parser in the
state in which that transaction is that word. -/
def State.loadWord (w : Word) (s : State) : State :=
  match w with
  | .port (.rx sym) =>
    match rxData? sym with
    | some _ => s.inLenHi.pushInput (.rx sym)
    | none => s.pushInput (.rx sym)
  | .port t => s.pushInput t
  | .frameByte b => s.awaitDelim.pushInput (.rx (rxByteSym b))
  | .frameType p => (s.atChecksum p).pushInput (.rx (rxByteSym (checksumOf p)))
  | .atCmd c q disableAck => s.pushInput (.op 0x3 ⟨q, be16Bytes c, disableAck⟩)

end Sys2Proof.Machine
end

