-- ==== Sys2Proof/Machine/Step.lean ====
section
/-!
DEFINITION. One step of the block: the next transaction on its ports (spec/00_scope.md R10).
-/

namespace Sys2Proof.Machine

/-- A word is run: the instruction it decodes to, or the refusal of the one that is none (R72). -/
def runWord (w : Word) (s : State) : Host.Outcome State Fault Refusal :=
  match decode w with
  | .ok i => exec i s
  | .error r => refuseRequest r s

/-- One step: the next transaction, as the word it is in this state. With no transaction to come the block
waits: its registers stand and its output ports carry nothing (R217, R224; log entry 2). -/
def step (s : State) : Host.Outcome State Fault Refusal :=
  match s.inputs with
  | [] => .next s.quiet
  | t :: _ => runWord (viewTransaction s t) s.popInput

/-- The table's word `w` of `nbits` bits where the next step fetches it. -/
def State.withFetchWord (s : State) (nbits w : Nat) : State := s.loadWord (tableWord nbits w)

end Sys2Proof.Machine
end

