-- ==== Sys2Proof/Machine/ControlLoop.lean ====
section
/-!
DEFINITION. The host model, which is not part of the block (spec/44_host_control_loop.md R190 to R199;
spec/00_scope.md R5; log entry 16): the control loop that drives the block's ports and reacts to its
events, and the transport's reads as `rx` symbols (spec/20_memory.md R47). Nothing of the block's model
depends on this file.
-/

namespace Sys2Proof.Machine

/-! ### The transport's reads -/

/-- `readExactly(n)` against what the transport yields, as `rx` symbols: all `n` bytes, or a short read,
which ends in `Timeout` (R47). -/
def readExactlySymbols (n : Nat) (yielded : List Byte) : List (BitVec 10) :=
  if n ≤ yielded.length then (yielded.take n).map rxByteSym
  else yielded.map rxByteSym ++ [rxTimeoutSym]

/-! ### The control loop -/

/-- Why the loop ended (R190). -/
inductive LoopStop where
  | timeout
  | transportFault
deriving DecidableEq, Repr

/-- `h.mode` (R190). -/
inductive LoopMode where
  | running
  | stopped (reason : LoopStop)
deriving DecidableEq, Repr

/-- The host state `h` (R190). `tip` has no upper bound. -/
structure LoopState where
  tip : Nat
  mode : LoopMode
deriving DecidableEq, Repr

/-- What the loop does about an event, in order (R193 to R195). -/
inductive LoopDuty where
  /-- `write(BUILD_REMOTE_AT c, q, disableAck)`. -/
  | send (c q : List Byte) (disableAck : Bool)
  /-- `wait LATCH_DELAY`. -/
  | wait
  /-- The voltage is surfaced. -/
  | surface (mv : BitVec 17)
deriving DecidableEq, Repr

/-- What the loop has done, as the outside sees it. -/
inductive LoopAction where
  /-- A frame has been written to the transport. -/
  | wrote (frame : List Byte)
  /-- A delay has passed. -/
  | waited (delay : Nat)
  /-- A voltage has been reported. -/
  | surfaced (mv : BitVec 17)
deriving DecidableEq, Repr

/-- The host and the block it drives. `latchDelay` is the open parameter `LATCH_DELAY` (R6); `stream` is
what the transport will still deliver. -/
structure System where
  block : State
  loop : LoopState
  actions : List LoopAction
  stream : List (BitVec 10)
  latchDelay : Nat
deriving DecidableEq, Repr

/-- The loop's start (R199): the block reset, the counter at zero. -/
def System.start (addr : BitVec 64) (latchDelay : Nat) (stream : List (BitVec 10)) : System where
  block := State.resetWith addr
  loop := { tip := 0, mode := .running }
  actions := []
  stream := stream
  latchDelay := latchDelay

/-- The loop's state after an event (R191 to R198). -/
def loopAfter (e : Event) (h : LoopState) : LoopState :=
  match e with
  | .readTimeout => { h with mode := .stopped .timeout }
  | .transportFault => { h with mode := .stopped .transportFault }
  | .malformedFrame _ => h
  | .badChecksum _ => h
  | .frameOk r => if r.kind = .ioSample ∧ r.sw = 0x08 then { h with tip := h.tip + 1 } else h

/-- What the loop does about an event (R191 to R198). -/
def loopDuties (e : Event) : List LoopDuty :=
  match e with
  | .frameOk r =>
    match r.kind with
    | .ioSample =>
      if r.sw = 0x08 then
        [.send (be16Bytes Config.cmdD0) [0x05] true, .wait, .send (be16Bytes Config.cmdD0) [0x04] true]
      else [.send (be16Bytes Config.cmdPctV) [] false]
    | .atResponse => if r.cmd = Config.cmdPctV ∧ r.vvalid then [.surface r.mv] else []
    | .other => []
    | .short => []
  | _ => []

/-- One transaction fed to the block on its own. -/
def feedBlock (t : Transaction) (b : State) : StepResult := step { b with inputs := [t] }

/-- The outcome of a step of the system. -/
abbrev SystemResult := Host.Outcome System Fault Refusal

/-- One duty: a frame is built by the block and written, a delay passes, or a voltage is surfaced
(R193 to R195). -/
def performDuty (d : LoopDuty) (y : System) : SystemResult :=
  match d with
  | .wait => .next { y with actions := y.actions ++ [.waited y.latchDelay] }
  | .surface mv => .next { y with actions := y.actions ++ [.surfaced mv] }
  | .send c q disableAck =>
    match feedBlock (.op 0x3 ⟨q, c, disableAck⟩) y.block with
    | .next b => .next { y with block := b, actions := y.actions ++ (b.tx.toList.map .wrote) }
    | .fault r => .fault r
    | .refused r => .refused r

/-- All the duties of an event, in order, before the next symbol is fed (R197). -/
def performDuties (ds : List LoopDuty) (y : System) : SystemResult :=
  match ds with
  | [] => .next y
  | d :: rest =>
    match performDuty d y with
    | .next y' => performDuties rest y'
    | .fault r => .fault r
    | .refused r => .refused r

/-- One iteration: the next symbol is fed, and its event is handled whole; a stopped loop feeds nothing
(R197). -/
def systemStep (y : System) : SystemResult :=
  match y.loop.mode, y.stream with
  | .running, sym :: rest =>
    match feedBlock (.rx sym) y.block with
    | .next b =>
      match b.evt with
      | none => .next { y with block := b, stream := rest }
      | some e =>
        performDuties (loopDuties e) { y with block := b, stream := rest, loop := loopAfter e y.loop }
    | .fault r => .fault r
    | .refused r => .refused r
  | _, _ => .next y

/-- `k` iterations, stopping at the first fault or refusal. -/
def systemRun : Nat → System → SystemResult
  | 0, y => .next y
  | k + 1, y =>
    match systemStep y with
    | .next y' => systemRun k y'
    | .fault r => .fault r
    | .refused r => .refused r

end Sys2Proof.Machine
end

