-- ==== Sys2Proof/Safety.lean ====
section
/-!
DEFINITION. What counts as a safe state and a safe run of the block, in the terms the statements use: the
invariants of spec/10_state.md R22, R27, R28 and R31, and the outcomes of a step.
-/

namespace Sys2Proof.Machine

/-- `st` holds one of its five encodings (R22). -/
abbrev State.legalSt (s : State) : Prop := s.st.toNat ≤ 4

/-- The invariants of R31, one conjunct for each of its lines. -/
abbrev State.registersAgree (s : State) : Prop :=
  (s.st = 0 → s.buf = [] ∧ s.len = 0 ∧ s.cnt = 0 ∧ s.sum = 0) ∧
  (s.st = 1 → s.buf = [0x7E]) ∧
  (s.st = 2 → s.buf = [0x7E, s.len.extractLsb' 8 8]) ∧
  (s.st = 3 → s.buf.length = 3 + s.cnt.toNat ∧ s.cnt.toNat ≤ s.len.toNat ∧
    s.sum.toNat = ((s.buf.drop 3).map BitVec.toNat).sum % 256) ∧
  (s.st = 4 → (s.stop = 1 ∨ s.stop = 2) ∧ s.buf = [])

/-- In `BODY` the buffer begins with the frame's own header: the delimiter and the length field
(R27, R131). -/
abbrev State.headerAgrees (s : State) : Prop :=
  s.st = 3 → s.buf.take 3 = [0x7E, s.len.extractLsb' 8 8, s.len.extractLsb' 0 8]

/-- `stop` says `NONE` in every live state (R28, R32). -/
abbrev State.stopAgrees (s : State) : Prop := s.st.toNat < 4 → s.stop = 0

/-- Outside `BODY` nothing has been counted or summed (R23, R24, R31, R124; the last sentence of R31 rests
on it). -/
abbrev State.countersAgree (s : State) : Prop := s.st ≠ 3 → s.cnt = 0 ∧ s.sum = 0

/-- A state that a run from reset can be in: `RESET` has happened, `st` is legal, and the registers agree. -/
abbrev State.sound (s : State) : Prop :=
  s.resetDone = true ∧ s.legalSt ∧ s.registersAgree ∧ s.headerAgrees ∧ s.stopAgrees ∧
    s.countersAgree

/-- The parser registers, which `op` requests and refusals leave alone (R50, R53, R225). -/
abbrev State.sameParser (s t : State) : Prop :=
  t.resetDone = s.resetDone ∧ t.st = s.st ∧ t.len = s.len ∧ t.cnt = s.cnt ∧ t.sum = s.sum ∧
    t.buf = s.buf ∧ t.stop = s.stop

/-- A step answers a next state: no fault, no refusal. -/
abbrev answersNext (o : StepResult) : Prop := ∃ t, o = .next t

/-- `k` steps, stopping at the first fault or refusal: what the host's `Core.run` does with `core`
(`core_run_eq_run` in Sys2Proof/Laws/Run.lean). -/
def run : Nat → State → StepResult
  | 0, s => .next s
  | k + 1, s =>
    match step s with
    | .next t => run k t
    | .fault r => .fault r
    | .refused r => .refused r

/-- The transactions that carry the bytes `bs` on `rx`, one symbol per step (R47). -/
abbrev rxStream (bs : List Byte) : List Transaction := bs.map fun b => .rx (rxByteSym b)

end Sys2Proof.Machine
end

