-- ==== Sys2Proof/Certificates/Slice0/Obligations.lean ====
section
/-!
DEFINITION. The statements for the provers. Each docstring names the rule of spec/ it formalises. Where a
statement says that a step answers a next state, it gives that state whole: what it does not change stands
as it was, so the statement is also the instruction's frame. The block has no addressed memory (R40).

Four things stand in these states because the model needs a place for them, not because a rule asks for a
register: the transactions to come (`inputs`, log entry 1), what the last step put on `evt`, `res` and `tx`
(log entry 3), whether a `RESET` has happened (`resetDone`, log entry 5) and the mark of R225 (`runRefused`,
log entry 4). What a statement says of them beyond its rule is the model's bookkeeping.
-/

namespace Sys2Proof.Statements

open Sys2Proof.Machine

/-- The rule R150 in the statements' own words: the frame for the command code `c0 c1`, the parameters `q`
and the options bit `disableAck`, with the strap at `a`. -/
def builtFrame (a : BitVec 64) (c0 c1 : Byte) (q : List Byte) (disableAck : Bool) : List Byte :=
  let L := 15 + q.length
  let body : List Byte :=
    [0x17, 0x04, a.extractLsb' 56 8, a.extractLsb' 48 8, a.extractLsb' 40 8, a.extractLsb' 32 8,
      a.extractLsb' 24 8, a.extractLsb' 16 8, a.extractLsb' 8 8, a.extractLsb' 0 8, 0xFF, 0xFE,
      if disableAck then 0x03 else 0x02, c0, c1] ++ q
  [0x7E, BitVec.ofNat 8 (L / 256), BitVec.ofNat 8 (L % 256)] ++ body ++
    [BitVec.ofNat 8 (0xFF - (body.map BitVec.toNat).sum % 256)]

/-- What a refused request leaves: the reason on `res`, the mark, nothing else (R225). -/
def afterRefusal (s : State) (r : RefuseReason) : State :=
  { s with evt := none, res := some (.refusal r), tx := none, runRefused := true }

/-- What an answered request leaves: the result on `res`, nothing else (R50, R53). -/
def afterAnswer (s : State) (r : Result) : State := { s with evt := none, res := some r, tx := none }

/-- What a validated frame leaves: `FRAME_OK` and the cleared parser in `AWAIT_DELIM` (R126). -/
def afterFrame (s : State) (r : FrameRecord) : State :=
  { s with st := 0, len := 0, cnt := 0, sum := 0, buf := [], evt := some (.frameOk r), res := none, tx := none }

/-- The sum of a byte list as a natural number (R8). -/
abbrev total (p : List Byte) : Nat := (p.map BitVec.toNat).sum

end Sys2Proof.Statements

open Sys2Proof Sys2Proof.Machine Sys2Proof.Statements

/-! ### The receive state machine -/

/-- R121: in `AWAIT_DELIM` the byte `0x7E` starts a frame; the symbol is `00 7E`. -/
def Obligations.DelimiterStartsFrame : Prop :=
  ∀ (s : State) (rest : List Transaction), s.resetDone = true → s.st = 0 →
    let t : State := { s with buf := [0x7E], st := 1, evt := none, res := none, tx := none }
    exec .delimiter s = .next t ∧ exec (.rxByte 0x7E) s = .next t ∧
      step { s with inputs := .rx 0x07E :: rest } = .next { t with inputs := rest }

/-- R122: in `AWAIT_DELIM` any other byte is `MALFORMED_FRAME` and changes no register. -/
def Obligations.OtherByteIsMalformedFrame : Prop :=
  ∀ (s : State) (b : Byte) (rest : List Transaction), s.resetDone = true → s.st = 0 → b ≠ 0x7E →
    let t : State := { s with evt := some (.malformedFrame b), res := none, tx := none }
    exec (.nonDelimiter b) s = .next t ∧ exec (.rxByte b) s = .next t ∧
      step { s with inputs := .rx (0#2 ++ b) :: rest } = .next { t with inputs := rest }

/-- R123: in `LEN_HI` any byte is the high length byte. -/
def Obligations.LengthHighByteIsTaken : Prop :=
  ∀ (s : State) (b : Byte) (rest : List Transaction), s.resetDone = true → s.st = 1 →
    let t : State :=
      { s with len := b ++ 0#8, buf := s.buf ++ [b], st := 2, evt := none, res := none, tx := none }
    exec (.rxByte b) s = .next t ∧
      step { s with inputs := .rx (0#2 ++ b) :: rest } = .next { t with inputs := rest }

/-- R124: in `LEN_LO` any byte is the low length byte, and the body begins. -/
def Obligations.LengthLowByteIsTaken : Prop :=
  ∀ (s : State) (b : Byte) (rest : List Transaction), s.resetDone = true → s.st = 2 →
    let t : State :=
      { s with
        len := s.len.extractLsb' 8 8 ++ b, buf := s.buf ++ [b], cnt := 0, sum := 0, st := 3
        evt := none, res := none, tx := none }
    exec (.rxByte b) s = .next t ∧
      step { s with inputs := .rx (0#2 ++ b) :: rest } = .next { t with inputs := rest }

/-- R125: in `BODY` a byte that is not the last body byte is appended, counted and summed. -/
def Obligations.BodyByteIsAppended : Prop :=
  ∀ (s : State) (b : Byte) (rest : List Transaction), s.resetDone = true → s.st = 3 →
    s.cnt.toNat + 1 < s.len.toNat + 1 →
    let t : State :=
      { s with
        buf := s.buf ++ [b], cnt := s.cnt + 1, sum := BitVec.ofNat 8 ((s.sum.toNat + b.toNat) % 256)
        evt := none, res := none, tx := none }
    exec (.rxByte b) s = .next t ∧
      step { s with inputs := .rx (0#2 ++ b) :: rest } = .next { t with inputs := rest }

/-- R126: the last body byte validates the frame: `FRAME_OK` with the record of its payload, or
`BAD_CHECKSUM` with the whole frame, the checksum decided first; then `AWAIT_DELIM`, cleared. -/
def Obligations.LastBodyByteEndsFrame : Prop :=
  ∀ (s : State) (b : Byte) (rest : List Transaction), s.resetDone = true → s.st = 3 →
    ¬ s.cnt.toNat + 1 < s.len.toNat + 1 →
    let f := s.buf ++ [b]
    let e : Event :=
      if (s.sum.toNat + b.toNat) % 256 = 0xFF then .frameOk (classify ((f.drop 3).take s.len.toNat))
      else .badChecksum f
    let t : State :=
      { s with
        st := 0, len := 0, cnt := 0, sum := 0, buf := [], evt := some e, res := none, tx := none }
    exec (.rxByte b) s = .next t ∧
      step { s with inputs := .rx (0#2 ++ b) :: rest } = .next { t with inputs := rest }

/-- R128: in a live state `Timeout` emits `READ_TIMEOUT` and stops the receive side, a partial frame
discarded. -/
def Obligations.TimeoutStopsReceive : Prop :=
  ∀ (s : State) (rest : List Transaction), s.resetDone = true → s.st.toNat < 4 →
    let t : State :=
      { s with
        st := 4, stop := 1, len := 0, cnt := 0, sum := 0, buf := [], evt := some .readTimeout
        res := none, tx := none }
    exec .rxTimeout s = .next t ∧
      step { s with inputs := .rx 0x100 :: rest } = .next { t with inputs := rest }

/-- R129: in a live state `Fault` emits `TRANSPORT_FAULT` and stops the receive side, a partial frame
discarded. -/
def Obligations.TransportFaultStopsReceive : Prop :=
  ∀ (s : State) (rest : List Transaction), s.resetDone = true → s.st.toNat < 4 →
    let t : State :=
      { s with
        st := 4, stop := 2, len := 0, cnt := 0, sum := 0, buf := [], evt := some .transportFault
        res := none, tx := none }
    exec .rxFault s = .next t ∧
      step { s with inputs := .rx 0x200 :: rest } = .next { t with inputs := rest }

/-- R130: in `STOPPED` no `rx` symbol that is not reserved changes a register or emits an event. That the
rows `DELIMITER` and `NON_DELIMITER`, run there as instructions on their own, are ignored too is the model's
choice, log entry 7 (DESIGN CHOICE). -/
def Obligations.StoppedIgnoresRx : Prop :=
  ∀ (s : State) (rest : List Transaction), s.resetDone = true → s.st = 4 →
    let t : State := { s with evt := none, res := none, tx := none }
    exec .rxTimeout s = .next t ∧ exec .rxFault s = .next t ∧ exec .delimiter s = .next t ∧
      (∀ b, exec (.rxByte b) s = .next t ∧ exec (.nonDelimiter b) s = .next t) ∧
      ∀ sym, reservedRx sym = false →
        step { s with inputs := .rx sym :: rest } = .next { t with inputs := rest }

/-- R22, R120: an `st` encoding of 5, 6 or 7 is a fault for every `rx` symbol that is not reserved. That
`Timeout` and `Fault` read `st` too is log entry 10 (DEDUCED); that the `frame_type` rows, as instructions
on their own, fault there and change nothing in `STOPPED` is log entry 7 (DESIGN CHOICE). -/
def Obligations.IllegalStatesFaultAndFrameRowsStop : Prop :=
  (∀ (s : State) (rest : List Transaction), s.resetDone = true → 4 < s.st.toNat →
    exec .rxTimeout s = .fault .badParserState ∧ exec .rxFault s = .fault .badParserState ∧
      exec .delimiter s = .fault .badParserState ∧
      (∀ b, exec (.rxByte b) s = .fault .badParserState ∧
        exec (.nonDelimiter b) s = .fault .badParserState) ∧
      (∀ p, exec (.typeRemoteAtCommand p) s = .fault .badParserState ∧
        exec (.typeIoDataSample p) s = .fault .badParserState ∧
        exec (.typeAtCommandResponse p) s = .fault .badParserState ∧
        exec (.typeUnrecognized p) s = .fault .badParserState) ∧
      ∀ sym, reservedRx sym = false →
        step { s with inputs := .rx sym :: rest } = .fault .badParserState) ∧
  ∀ (s : State) (p : List Byte), s.resetDone = true → s.st = 4 →
    let t : State := { s with evt := none, res := none, tx := none }
    exec (.typeRemoteAtCommand p) s = .next t ∧ exec (.typeIoDataSample p) s = .next t ∧
      exec (.typeAtCommandResponse p) s = .next t ∧ exec (.typeUnrecognized p) s = .next t

/-- R72: the reserved encodings are refused in every parser state, and every frame type is legal. -/
def Obligations.ReservedEncodingsAreRefused : Prop :=
  (∀ (s : State) (rest : List Transaction), s.resetDone = true →
    (∀ sym, exec (.rxReserved sym) s = .next (afterRefusal s .reservedRxSymbol)) ∧
    exec .opReserved0 s = .next (afterRefusal s .reservedOp) ∧
    (∀ lo, exec (.opReserved67 lo) s = .next (afterRefusal s .reservedOp)) ∧
    (∀ lo, exec (.opReserved8F lo) s = .next (afterRefusal s .reservedOp)) ∧
    (∀ (code : BitVec 4) (a : OpArgs), code = 0 ∨ 6 ≤ code.toNat →
      step { s with inputs := .op code a :: rest } =
        .next { afterRefusal s .reservedOp with inputs := rest }) ∧
    (∀ d : Byte, step { s with inputs := .rx (3#2 ++ d) :: rest } =
      .next { afterRefusal s .reservedRxSymbol with inputs := rest }) ∧
    (∀ d : Byte, d ≠ 0 →
      step { s with inputs := .rx (1#2 ++ d) :: rest } =
          .next { afterRefusal s .reservedRxSymbol with inputs := rest } ∧
        step { s with inputs := .rx (2#2 ++ d) :: rest } =
          .next { afterRefusal s .reservedRxSymbol with inputs := rest }) ∧
    step { s with inputs := .rst 0 :: rest } = .next { afterRefusal s .reservedRst with inputs := rest }) ∧
  ∀ p : List Byte, ∃ i, decode (.frameType p) = .ok i

/-- R134: outside `AWAIT_DELIM` the byte `0x7E` is data like any other: in a frame the parser keeps it or ends
the frame by it. That the rows `DELIMITER` and `NON_DELIMITER`, run there as instructions on their own, do
what the byte does is the model's choice, log entry 7 (DESIGN CHOICE). -/
def Obligations.DelimiterIsDataInsideFrame : Prop :=
  ∀ s : State, s.resetDone = true → 1 ≤ s.st.toNat → s.st.toNat ≤ 3 →
    ∃ t, exec .delimiter s = .next t ∧ exec (.rxByte 0x7E) s = .next t ∧
      (s.st = 3 ∧ ¬ s.cnt.toNat < s.len.toNat ∧ t.evt ≠ none ∨ t.buf = s.buf ++ [0x7E] ∧ t.evt = none) ∧
      ∀ b, exec (.nonDelimiter b) s = exec (.rxByte b) s ∧
        (s.st = 3 ∧ ¬ s.cnt.toNat < s.len.toNat ∨
          ∃ u, exec (.rxByte b) s = .next u ∧ u.st = t.st ∧ u.cnt = t.cnt ∧ u.buf = s.buf ++ [b])

/-- R133: in `BODY` the verdict by the running sum is VERIFY_CHECKSUM of the frame. -/
def Obligations.RunningSumVerdictIsVerify : Prop :=
  ∀ (s : State) (b : Byte), s.resetDone = true → s.registersAgree → s.st = 3 →
    s.sum.toNat = total (s.buf.drop 3) % 256 ∧
      exec (.verifyChecksum (s.buf ++ [b])) s =
        .next (afterAnswer s (.bit (decide ((s.sum.toNat + b.toNat) % 256 = 0xFF))))

/-! ### Classification -/

/-- R127, its arm for `0x92`: a validated `0x92` frame is reported with its switch state, or as `SHORT`.
That the instruction does so in every live state is log entry 7 (DESIGN CHOICE). -/
def Obligations.IoSampleFrameIsReported : Prop :=
  ∀ (s : State) (rest : List Byte), s.resetDone = true → s.st.toNat < 4 →
    let p : List Byte := 0x92 :: rest
    let short : FrameRecord := ⟨.short, some 0x92, p, 0, 0, false, 0⟩
    let sw : Byte := if (p.getD 14 0).getLsbD 3 && (p.getD 17 0).getLsbD 3 then 0x08 else 0x00
    let r := if p.length < 18 then short else ⟨.ioSample, some 0x92, p, sw, 0, false, 0⟩
    exec (.typeIoDataSample rest) s = .next (afterFrame s r) ∧ classify p = r

/-- R127, its arm for `0x97`: a validated `0x97` frame is reported with its command code, with the voltage
when the code is `%V`, or as `SHORT`. Log entry 7 as above. -/
def Obligations.AtResponseFrameIsReported : Prop :=
  ∀ (s : State) (rest : List Byte), s.resetDone = true → s.st.toNat < 4 →
    let p : List Byte := 0x97 :: rest
    let short : FrameRecord := ⟨.short, some 0x97, p, 0, 0, false, 0⟩
    let cmd : Half := p.getD 12 0 ++ p.getD 13 0
    let raw := (p.getD 15 0).toNat * 256 + (p.getD 16 0).toNat
    let r :=
      if p.length < 14 then short
      else if cmd ≠ 0x2556 then ⟨.atResponse, some 0x97, p, 0, cmd, false, 0⟩
      else if p.length < 17 then short
      else ⟨.atResponse, some 0x97, p, 0, cmd, true, BitVec.ofNat 17 (raw * 1200 / 1024)⟩
    exec (.typeAtCommandResponse rest) s = .next (afterFrame s r) ∧ classify p = r

/-- R64, R127, R226: a received `0x17`, a type that is not recognised and a frame with no type are kind
`OTHER`. Log entry 7 as above. -/
def Obligations.OtherFrameIsReported : Prop :=
  ∀ (s : State) (rest p : List Byte), s.resetDone = true → s.st.toNat < 4 →
    exec (.typeRemoteAtCommand rest) s =
        .next (afterFrame s ⟨.other, some 0x17, 0x17 :: rest, 0, 0, false, 0⟩) ∧
      classify (0x17 :: rest) = ⟨.other, some 0x17, 0x17 :: rest, 0, 0, false, 0⟩ ∧
      exec (.typeUnrecognized p) s = .next (afterFrame s ⟨.other, p.head?, p, 0, 0, false, 0⟩) ∧
      (p.head? ≠ some 0x92 → p.head? ≠ some 0x97 → classify p = ⟨.other, p.head?, p, 0, 0, false, 0⟩)

/-- R76: the least payload lengths, and what a kind carries. -/
def Obligations.KindFollowsLengthAndType : Prop :=
  ∀ p : List Byte,
    let cmd : Half := p.getD 12 0 ++ p.getD 13 0
    (p.head? = some 0x92 → 18 ≤ p.length →
      (classify p).kind = .ioSample ∧ (classify p).sw = switchState p) ∧
    (p.head? = some 0x92 → 1 ≤ p.length → p.length < 18 → (classify p).kind = .short) ∧
    (p.head? = some 0x97 → 14 ≤ p.length → cmd ≠ 0x2556 →
      (classify p).kind = .atResponse ∧ (classify p).cmd = cmd ∧ (classify p).vvalid = false) ∧
    (p.head? = some 0x97 → 17 ≤ p.length → cmd = 0x2556 →
      (classify p).kind = .atResponse ∧ (classify p).cmd = cmd ∧ (classify p).vvalid = true ∧
        (classify p).mv = voltage p) ∧
    (p.head? = some 0x97 → 1 ≤ p.length → p.length < 14 → (classify p).kind = .short) ∧
    (p.head? = some 0x97 → 14 ≤ p.length → p.length < 17 → cmd = 0x2556 → (classify p).kind = .short)

/-- R174, its last paragraph: the parser never calls an extractor that would refuse. -/
def Obligations.ParserNeverCallsRefusingExtractor : Prop :=
  ∀ p : List Byte,
    ((classify p).kind = .ioSample → extractSwitchOf p = .ok (classify p).sw) ∧
    ((classify p).vvalid = true → extractVoltageOf p = .ok (classify p).mv)

/-- R66, R67: the record of a frame does not depend on the payload bytes the block does not read. -/
def Obligations.IgnoredPayloadBytesDoNotMatter : Prop :=
  ∀ p q : List Byte, p.length = q.length →
    ((p.head? = some 0x92 ∧ ∀ i ∈ [0, 13, 14, 16, 17], p[i]? = q[i]?) ∨
      (p.head? = some 0x97 ∧ ∀ i ∈ [0, 12, 13, 15, 16], p[i]? = q[i]?)) →
    { classify p with payload := [] } = { classify q with payload := [] }

/-! ### The checksum codec -/

/-- R100: COMPUTE_CHECKSUM answers `0xFF` less the low 8 bits of the sum. That a list longer than the 65535
bytes R100 names has its checksum too is log entry 14 (DEDUCED), and that the request's other operand lanes
are not read is log entry 9 (DEDUCED): the model's inferences. -/
def Obligations.ComputeChecksumAnswers : Prop :=
  ∀ (s : State) (p c : List Byte) (d : Bool) (rest : List Transaction), s.resetDone = true →
    ∃ x : Byte, x.toNat = 0xFF - total p % 256 ∧ x = ~~~(BitVec.ofNat 8 (total p)) ∧
      total (p ++ [x]) % 256 = 0xFF ∧
      exec (.computeChecksum p) s = .next (afterAnswer s (.byte x)) ∧
      step { s with inputs := .op 0x1 ⟨p, c, d⟩ :: rest } =
        .next { afterAnswer s (.byte x) with inputs := rest }

/-- R101: VERIFY_CHECKSUM answers whether the bytes from offset 3 onward sum to `0xFF` mod 256, for every
byte list. That the request's other operand lanes are not read is the model's inference, log entry 9
(DEDUCED). -/
def Obligations.VerifyChecksumAnswers : Prop :=
  ∀ (s : State) (f c : List Byte) (d : Bool) (rest : List Transaction), s.resetDone = true →
    let v : Bool := decide (total (f.drop 3) % 256 = 0xFF)
    exec (.verifyChecksum f) s = .next (afterAnswer s (.bit v)) ∧
      step { s with inputs := .op 0x2 ⟨f, c, d⟩ :: rest } =
        .next { afterAnswer s (.bit v) with inputs := rest }

/-- R101, its corner cases: the check does not read the header, is blind to order, and detects any single
changed byte. -/
def Obligations.VerifyIsOrderBlindAndCatchesOneByte : Prop :=
  (∀ (h k p q : List Byte), h.length = 3 → k.length = 3 → p.Perm q →
    checksumHolds (h ++ p) = checksumHolds (k ++ q)) ∧
  ∀ (f : List Byte) (i : Nat) (b : Byte), 3 ≤ i → i < f.length → f[i]? ≠ some b →
    checksumHolds f = true → checksumHolds (f.set i b) = false

/-- R102: the codec law, over the two requests. -/
def Obligations.ChecksumCodecLaw : Prop :=
  ∀ (s : State) (p : List Byte) (h1 h2 : Byte), s.resetDone = true → p.length ≤ 65535 →
    ∃ x : Byte, exec (.computeChecksum p) s = .next (afterAnswer s (.byte x)) ∧
      exec (.verifyChecksum ([0x7E, h1, h2] ++ p ++ [x])) s = .next (afterAnswer s (.bit true))

/-- R103: an 8-bit accumulator that wraps on every add gives the same checksum, and the widest sum fits in
24 bits. -/
def Obligations.WrappingAccumulatorAgrees : Prop :=
  ∀ p : List Byte,
    checksumOf p = 0xFF - p.foldl (fun acc b => acc + b) (0 : BitVec 8) ∧
      (p.length ≤ 65536 → total p ≤ 16711680 ∧ total p < 2 ^ 24)

/-! ### The command encoder -/

/-- R150: BUILD_REMOTE_AT puts the frame on `res` and `tx` and changes no state; so do the requests for the
two command codes the table names (R68). -/
def Obligations.BuildRemoteAtAnswersFrame : Prop :=
  ∀ (s : State) (c0 c1 : Byte) (q : List Byte) (d : Bool) (rest : List Transaction),
    s.resetDone = true → q.length ≤ 65520 →
    let built (c0 c1 : Byte) : State :=
      { s with
        evt := none, res := some (.bytes (builtFrame s.destAddr64 c0 c1 q d))
        tx := some (builtFrame s.destAddr64 c0 c1 q d) }
    exec (.buildRemoteAt [c0, c1] q d) s = .next (built c0 c1) ∧
      exec (.atCmdD0 q d) s = .next (built 0x44 0x30) ∧
      exec (.atCmdPctV q d) s = .next (built 0x25 0x56) ∧
      step { s with inputs := .op 0x3 ⟨q, [c0, c1], d⟩ :: rest } =
        .next { built c0 c1 with inputs := rest }

/-- R151: a command code that is not two bytes and a parameter list that is too long are refused; any two
bytes and up to 65520 parameters are accepted. Which reason is given when both are wrong is log entry 17
(DEDUCED). -/
def Obligations.BuildOperandsAreChecked : Prop :=
  ∀ (s : State) (c q : List Byte) (d : Bool), s.resetDone = true →
    (c.length ≠ 2 → exec (.buildRemoteAt c q d) s = .next (afterRefusal s .badCommandCode)) ∧
    (c.length = 2 → 65520 < q.length →
      exec (.buildRemoteAt c q d) s = .next (afterRefusal s .lengthOverflow)) ∧
    (65520 < q.length →
      exec (.atCmdD0 q d) s = .next (afterRefusal s .lengthOverflow) ∧
        exec (.atCmdPctV q d) s = .next (afterRefusal s .lengthOverflow)) ∧
    (c.length = 2 → q.length ≤ 65520 →
      ∃ f, exec (.buildRemoteAt c q d) s =
        .next { s with evt := none, res := some (.bytes f), tx := some f })

/-- R153: the closed form of the checksum of a built frame, and its three worked values. -/
def Obligations.BuiltChecksumClosedForm : Prop :=
  ∀ (s : State) (c0 c1 : Byte) (q : List Byte) (d : Bool), s.resetDone = true → q.length ≤ 65520 →
    let sA := total (be64Bytes s.destAddr64) % 256
    let closed (c0 c1 : Byte) (q : List Byte) (d : Bool) : Nat :=
      (0x17 + 0x04 + sA + 0xFF + 0xFE + (0x02 + (if d then 1 else 0)) + c0.toNat + c1.toNat + total q) % 256
    (∃ t f x, exec (.buildRemoteAt [c0, c1] q d) s = .next t ∧ t.tx = some (f ++ [x]) ∧
      x.toNat = 0xFF - closed c0 c1 q d) ∧
    closed 0x44 0x30 [0x05] true = (0x94 + sA) % 256 ∧
    closed 0x44 0x30 [0x04] true = (0x93 + sA) % 256 ∧
    closed 0x25 0x56 [] false = (0x95 + sA) % 256

/-- R154: what the encoder guarantees of every frame it builds: its length and length field, its checksum,
and that the parser, fed the frame in `AWAIT_DELIM`, reports it as kind `OTHER` of type `0x17` in its last
step, with no event before, and is back in `AWAIT_DELIM`. -/
def Obligations.BuiltFramesAreAccepted : Prop :=
  ∀ (s u : State) (c0 c1 : Byte) (q : List Byte) (d : Bool) (rest : List Transaction),
    s.resetDone = true → q.length ≤ 65520 → u.sound → u.st = 0 →
    ∃ f, exec (.buildRemoteAt [c0, c1] q d) s =
        .next { s with evt := none, res := some (.bytes f), tx := some f } ∧
      f.length = (15 + q.length) + 4 ∧
      (f.getD 1 0).toNat * 256 + (f.getD 2 0).toNat = 15 + q.length ∧
      ((f.drop 3).take (f.length - 4)).length = 15 + q.length ∧
      exec (.verifyChecksum f) s = .next (afterAnswer s (.bit true)) ∧
      (∀ n, n < f.length → ∃ v, run n { u with inputs := rxStream f ++ rest } = .next v ∧
        (n ≠ 0 → v.evt = none)) ∧
      run f.length { u with inputs := rxStream f ++ rest } =
        .next (afterFrame { u with inputs := rest }
          ⟨.other, some 0x17, (f.drop 3).take (15 + q.length), 0, 0, false, 0⟩)

/-! ### The field extractor -/

/-- R170: EXTRACT_SWITCH answers `0x08` exactly when bit 3 is set in the mask and in the sample. That the
request's other operand lanes are not read is log entry 9 (DEDUCED). -/
def Obligations.ExtractSwitchAnswers : Prop :=
  ∀ (s : State) (p c : List Byte) (d : Bool) (rest : List Transaction), s.resetDone = true →
    18 ≤ p.length → p.head? = some 0x92 →
    let sw : Byte := if (p.getD 14 0).getLsbD 3 && (p.getD 17 0).getLsbD 3 then 0x08 else 0x00
    exec (.extractSwitch p) s = .next (afterAnswer s (.byte sw)) ∧
      step { s with inputs := .op 0x4 ⟨p, c, d⟩ :: rest } =
        .next { afterAnswer s (.byte sw) with inputs := rest }

/-- R171, R172: EXTRACT_VOLTAGE of a `%V` response answers `floor(raw * 1200 / 1024)` millivolts. That the
request's other operand lanes are not read is log entry 9 (DEDUCED). -/
def Obligations.ExtractVoltageAnswers : Prop :=
  ∀ (s : State) (p c : List Byte) (d : Bool) (rest : List Transaction), s.resetDone = true →
    17 ≤ p.length → p.head? = some 0x97 → p.getD 12 0 = 0x25 → p.getD 13 0 = 0x56 →
    let raw := (p.getD 15 0).toNat * 256 + (p.getD 16 0).toNat
    ∃ mv : BitVec 17, mv.toNat = raw * 1200 / 1024 ∧
      exec (.extractVoltage p) s = .next (afterAnswer s (.millivolts mv)) ∧
      step { s with inputs := .op 0x5 ⟨p, c, d⟩ :: rest } =
        .next { afterAnswer s (.millivolts mv) with inputs := rest }

/-- R173: the voltage is `(raw * 75) >> 6`, at most 76798, for every 16-bit `raw`. -/
def Obligations.VoltageIsShiftOfProduct : Prop :=
  ∀ raw : Half, (millivoltsOf raw).toNat = raw.toNat * 1200 / 1024 ∧
    (millivoltsOf raw).toNat = (raw.toNat * 75) >>> 6 ∧ raw.toNat * 75 < 2 ^ 23 ∧
    (millivoltsOf raw).toNat ≤ 76798 ∧ (millivoltsOf 0xFFFF).toNat = 76798

/-- R174: the guards of the two extractors, in their order. -/
def Obligations.ExtractorGuardsRefuse : Prop :=
  ∀ (s : State) (p : List Byte), s.resetDone = true →
    (p.length < 18 → exec (.extractSwitch p) s = .next (afterRefusal s .shortPayload)) ∧
    (18 ≤ p.length → p.head? ≠ some 0x92 →
      exec (.extractSwitch p) s = .next (afterRefusal s .wrongFrameType)) ∧
    (p.length < 17 → exec (.extractVoltage p) s = .next (afterRefusal s .shortPayload)) ∧
    (17 ≤ p.length → p.head? ≠ some 0x97 →
      exec (.extractVoltage p) s = .next (afterRefusal s .wrongFrameType)) ∧
    (17 ≤ p.length → p.head? = some 0x97 → ¬ (p.getD 12 0 = 0x25 ∧ p.getD 13 0 = 0x56) →
      exec (.extractVoltage p) s = .next (afterRefusal s .notVoltageResponse))

/-! ### Reset -/

/-- R240: RESET from every state, the unreset one and `STOPPED` included; the strap stands. That the mark of
R225 and the transactions to come stand is log entry 18 (DESIGN CHOICE). -/
def Obligations.ResetRestoresParser : Prop :=
  ∀ (s : State) (rest : List Transaction),
    let t : State :=
      { s with
        resetDone := true, st := 0, stop := 0, len := 0, cnt := 0, sum := 0, buf := []
        evt := none, res := none, tx := none }
    exec .reset s = .next t ∧
      step { s with inputs := .rst 1 :: rest } = .next { t with inputs := rest }

/-- R241: before the first RESET any other step is the fault `NotReset`. That it is so for a reserved
encoding, `rst = 0` and a refused request too, before R213's refusal, is the model's inference, log entry 11
(DEDUCED). -/
def Obligations.UnresetStepsFault : Prop :=
  ∀ s : State, s.resetDone = false →
    (∀ i, i ≠ .reset → exec i s = .fault .notReset) ∧
    ∀ t rest, t ≠ .rst 1 → step { s with inputs := t :: rest } = .fault .notReset

/-- R32: the values after reset; the strap is not reset; the host's counter starts at 0. -/
def Obligations.ResetLeavesSpecValues : Prop :=
  (∀ addr, let s := State.resetWith addr
    s.st = 0 ∧ s.len = 0 ∧ s.cnt = 0 ∧ s.sum = 0 ∧ s.buf = [] ∧ s.stop = 0 ∧ s.destAddr64 = addr) ∧
  (∀ s : State, ∃ t, exec .reset s = .next t ∧ t.st = 0 ∧ t.len = 0 ∧ t.cnt = 0 ∧ t.sum = 0 ∧
    t.buf = [] ∧ t.stop = 0 ∧ t.destAddr64 = s.destAddr64) ∧
  ∀ addr latchDelay stream, (System.start addr latchDelay stream).loop.tip = 0

/-! ### Decoding and stepping -/

/-- A step runs the decoded instruction on the state without its transaction, and a transaction that is no
instruction is refused by its name (R10, R72, R120; log entries 1 and 7). -/
def Obligations.StepRunsDecodedInstruction : Prop :=
  ∀ (s : State) (t : Transaction) (rest : List Transaction), s.inputs = t :: rest →
    (∀ i, decode (viewTransaction s t) = .ok i → step s = exec i { s with inputs := rest }) ∧
    ∀ r, decode (viewTransaction s t) = .error r → s.resetDone = true →
      step s = .next { afterRefusal s r with inputs := rest }

/-- The frame-level names of a transaction mean what the transaction means on its port: the view a step
takes of it changes no outcome (R64, R120, R127; log entry 7). -/
def Obligations.FrameLevelViewKeepsMeaning : Prop :=
  ∀ (s : State) (t : Transaction) (i j : Instr), decode (.port t) = .ok i →
    decode (viewTransaction s t) = .ok j → exec j s = exec i s

/-- With no transaction to come the block waits: the model's own choice (log entry 2), from R217, R224. -/
def Obligations.IdleBlockWaits : Prop :=
  ∀ s : State, s.inputs = [] → step s = .next { s with evt := none, res := none, tx := none }

/-- Decode and encode agree on every well-formed instruction. -/
def Obligations.DecodeInvertsEncode : Prop :=
  ∀ i : Instr, i.wellFormed = true → decode (encode i) = .ok i

/-- The frame decoder reads back every frame-type instruction from its bytes on the wire, with the bytes
after it (R60, R61, R64, R74). -/
def Obligations.FrameDecodeInvertsEncode : Prop :=
  ∀ (i : Instr) (rest : List Byte), i.wellFormed = true → (rowOf i).format = .frameType →
    decodeFrame (encodeFrame i ++ rest) = .ok (i, rest)

/-- A few words written out from the tables of R64, R68 and R71. -/
def Obligations.WrittenWordsDecode : Prop :=
  decode (.port (.rx 0x07E)) = .ok (.rxByte 0x7E) ∧
  decode (.port (.rx 0x100)) = .ok .rxTimeout ∧
  decode (.port (.rx 0x200)) = .ok .rxFault ∧
  decode (.port (.rx 0x101)) = .ok (.rxReserved 0x101) ∧
  decode (.port (.op 0x1 ⟨[0x12], [], false⟩)) = .ok (.computeChecksum [0x12]) ∧
  decode (.port (.op 0x3 ⟨[0x05], [0x41, 0x42], true⟩)) = .ok (.buildRemoteAt [0x41, 0x42] [0x05] true) ∧
  decode (.port (.rst 0)) = .error .reservedRst ∧
  decode (.frameByte 0x7E) = .ok .delimiter ∧
  decode (.frameType [0x97, 0x04]) = .ok (.typeAtCommandResponse [0x04]) ∧
  decode (.atCmd 0x2556 [] false) = .ok (.atCmdPctV [] false)

/-- The opcode table is unambiguous: no word of a format has the fixed bits of two rows of one priority. -/
def Obligations.TableRowsDoNotOverlap : Prop :=
  ∀ (i j : Instr) (w : Nat), (rowOf i).format = (rowOf j).format →
    (rowOf i).priority = (rowOf j).priority → w < 2 ^ (rowOf i).width →
    rowMatches (rowOf i) w = true → rowMatches (rowOf j) w = true → rowOf i = rowOf j

/-- The frame decoder and the receive state machine agree: feeding the bytes of a frame, one per step, does
what the decoded instruction does (R120 to R127, R131). -/
def Obligations.MachineRunsDecodedFrame : Prop :=
  ∀ (s : State) (i : Instr) (bytes rest : List Byte), s.sound → s.st = 0 →
    decodeFrame bytes = .ok (i, rest) →
    run (bytes.length - rest.length) { s with inputs := rxStream bytes } =
      exec i { s with inputs := rxStream rest }

/-! ### Invariants -/

/-- The state after reset is sound, for every strap and every input (R31, R32). -/
def Obligations.ResetIsSound : Prop :=
  ∀ (addr : BitVec 64) (ts : List Transaction), ({ State.resetWith addr with inputs := ts } : State).sound

/-- R31: every step from a sound state leaves a sound state: the invariants are inductive. -/
def Obligations.StepKeepsSound : Prop :=
  ∀ s t : State, s.sound → step s = .next t → t.sound

/-- Every step from a sound state completes: no fault can happen there (R22, R241). -/
def Obligations.SoundStepsComplete : Prop :=
  ∀ s : State, s.sound → answersNext (step s)

/-- R31: the invariants hold after every step from reset, whatever comes on the ports; `cnt` is never
`len + 1` at the end of a step; and no run from reset stops. -/
def Obligations.RunsFromResetStaySound : Prop :=
  ∀ (addr : BitVec 64) (ts : List Transaction) (n : Nat),
    ∃ t, run n { State.resetWith addr with inputs := ts } = .next t ∧ t.sound ∧
      t.cnt.toNat ≠ t.len.toNat + 1

/-- R29: no step changes the strap. -/
def Obligations.StrapNeverChanges : Prop :=
  ∀ s t : State, step s = .next t → t.destAddr64 = s.destAddr64

/-- R27: the buffer, with the byte that ends the frame, never passes `BUF_BYTES`. -/
def Obligations.BufferNeverOverflows : Prop :=
  ∀ (s : State) (b : Byte), s.sound → (s.buf ++ [b]).length ≤ 65539

/-! ### Rules of the whole machine -/

/-- R211: `MALFORMED_FRAME` is raised only by a byte other than `0x7E` in `AWAIT_DELIM`, and records it. -/
def Obligations.MalformedOnlyAtFrameStart : Prop :=
  ∀ (s t : State) (b : Byte), step s = .next t → t.evt = some (.malformedFrame b) →
    s.st = 0 ∧ b ≠ 0x7E ∧ s.inputs.head? = some (.rx (0#2 ++ b)) ∧ s.sameParser t

/-- R212: `BAD_CHECKSUM` is raised only by a last body byte whose checksum fails, and records the whole
frame: delimiter, length, payload and checksum. -/
def Obligations.BadChecksumOnlyAtFrameEnd : Prop :=
  ∀ (s t : State) (f : List Byte), s.sound → step s = .next t → t.evt = some (.badChecksum f) →
    s.st = 3 ∧ s.cnt.toNat = s.len.toNat ∧ checksumHolds f = false ∧
      f.length = s.len.toNat + 4 ∧ f.take 3 = [0x7E, s.len.extractLsb' 8 8, s.len.extractLsb' 0 8] ∧
      ∃ b, s.inputs.head? = some (.rx (0#2 ++ b)) ∧ f = s.buf ++ [b]

/-- R214: the terminal events put the parser in `STOPPED` with `stop` set, and only `rst` leaves it. -/
def Obligations.TerminalEventsStopUntilReset : Prop :=
  ∀ s t : State, step s = .next t →
    (t.evt = some .readTimeout → t.st = 4 ∧ t.stop = 1) ∧
    (t.evt = some .transportFault → t.st = 4 ∧ t.stop = 2) ∧
    (s.st = 4 → s.inputs.head? ≠ some (.rst 1) → t.st = 4 ∧ t.stop = s.stop ∧ t.evt = none)

/-- R225: a refused request puts its reason on `res`, changes no state, emits nothing, and marks the run. -/
def Obligations.RefusalOnlyAnswers : Prop :=
  ∀ (s t : State) (r : RefuseReason), step s = .next t → t.res = some (.refusal r) →
    t = { afterRefusal s r with inputs := s.inputs.tail }

/-- R53: an `op` request does not change the parser state, and the parser state does not change its
result. -/
def Obligations.RequestsAndParserAreIndependent : Prop :=
  ∀ (s u : State) (code : BitVec 4) (a : OpArgs) (rest : List Transaction),
    s.resetDone = true → u.resetDone = true → u.destAddr64 = s.destAddr64 →
    ∃ t v, step { s with inputs := .op code a :: rest } = .next t ∧
      step { u with inputs := .op code a :: rest } = .next v ∧
      s.sameParser t ∧ u.sameParser v ∧ t.evt = none ∧ v.evt = none ∧ v.res = t.res ∧ v.tx = t.tx

/-- R131, R132: a delimiter in `AWAIT_DELIM` starts a frame that consumes exactly `L + 3` further bytes,
whatever their values, and ends in `FRAME_OK` or `BAD_CHECKSUM`, the parser back in `AWAIT_DELIM` at the
byte after the checksum. -/
def Obligations.FrameConsumesExactlyItsLength : Prop :=
  ∀ (s : State) (hi lo : Byte) (body : List Byte) (rest : List Transaction), s.sound → s.st = 0 →
    body.length = hi.toNat * 256 + lo.toNat + 1 →
    let f := [0x7E, hi, lo] ++ body
    let e : Event :=
      if checksumHolds f then .frameOk (classify (body.take (hi.toNat * 256 + lo.toNat))) else .badChecksum f
    run (hi.toNat * 256 + lo.toNat + 4) { s with inputs := rxStream f ++ rest } =
      .next { s with inputs := rest, evt := some e, res := none, tx := none }

/-- R122: a run of noise bytes gives one `MALFORMED_FRAME` each and no frame, and leaves the parser in
`AWAIT_DELIM` with its registers as they were. -/
def Obligations.NoiseIsSkippedByteByByte : Prop :=
  ∀ (s : State) (noise : List Byte) (b : Byte) (rest : List Transaction), s.resetDone = true → s.st = 0 →
    (∀ x ∈ noise, x ≠ 0x7E) → b ≠ 0x7E →
    run (noise.length + 1) { s with inputs := rxStream (noise ++ [b]) ++ rest } =
      .next { s with inputs := rest, evt := some (.malformedFrame b), res := none, tx := none }

/-! ### The host model -/

/-- R193: a frame that reports a tip counts it once and writes exactly the two latch frames, in order, with
the delay between them, before the next symbol. -/
def Obligations.TipIsCountedAndLatchReset : Prop :=
  ∀ (y : System) (sym : BitVec 10) (stream : List (BitVec 10)) (b : State) (r : FrameRecord),
    y.loop.mode = .running → y.stream = sym :: stream → feedBlock (.rx sym) y.block = .next b →
    b.evt = some (.frameOk r) → r.kind = .ioSample → r.sw = 0x08 →
    ∃ b', b.sameParser b' ∧ systemStep y =
      .next { y with
        block := b', stream := stream, loop := { y.loop with tip := y.loop.tip + 1 }
        actions := y.actions ++
          [.wrote (builtFrame y.block.destAddr64 0x44 0x30 [0x05] true), .waited y.latchDelay,
            .wrote (builtFrame y.block.destAddr64 0x44 0x30 [0x04] true)] }

/-- R194: a sample frame with no tip leaves the counter and writes exactly the `%V` request. -/
def Obligations.NoTipRequestsVoltage : Prop :=
  ∀ (y : System) (sym : BitVec 10) (stream : List (BitVec 10)) (b : State) (r : FrameRecord),
    y.loop.mode = .running → y.stream = sym :: stream → feedBlock (.rx sym) y.block = .next b →
    b.evt = some (.frameOk r) → r.kind = .ioSample → r.sw = 0x00 →
    ∃ b', b.sameParser b' ∧ systemStep y =
      .next { y with
        block := b', stream := stream
        actions := y.actions ++ [.wrote (builtFrame y.block.destAddr64 0x25 0x56 [] false)] }

/-- R191, R192, R195, R196, R198: every other event writes nothing: the terminal ones stop the loop, a `%V`
response is surfaced, and the rest change nothing. -/
def Obligations.OtherEventsWriteNothing : Prop :=
  ∀ (y : System) (sym : BitVec 10) (stream : List (BitVec 10)) (b : State) (e : Event),
    y.loop.mode = .running → y.stream = sym :: stream → feedBlock (.rx sym) y.block = .next b →
    b.evt = some e → (∀ r, e = .frameOk r → r.kind ≠ .ioSample) →
    let surfaced : List LoopAction :=
      match e with
      | .frameOk r =>
        if r.kind = .atResponse ∧ r.cmd = 0x2556 ∧ r.vvalid = true then [.surfaced r.mv] else []
      | _ => []
    let mode : LoopMode :=
      match e with
      | .readTimeout => .stopped .timeout
      | .transportFault => .stopped .transportFault
      | _ => .running
    systemStep y =
      .next { y with
        block := b, stream := stream, loop := ⟨y.loop.tip, mode⟩, actions := y.actions ++ surfaced }

/-- The source's end-to-end property (spec/95_test_vectors.md L1-5; R126, R127, R170, R193): the whole frame
of a sample with bit 3 set in mask and sample, fed to the host and block between frames, counts exactly one
tip and writes exactly the two latch frames, and the block is back between frames. -/
def Obligations.SampleFrameWithTipEndToEnd : Prop :=
  ∀ (y : System) (rest : List Byte) (stream : List (BitVec 10)),
    let p : List Byte := 0x92 :: rest
    y.loop.mode = .running → y.block.sound → y.block.st = 0 → 18 ≤ p.length → p.length ≤ 65535 →
    (p.getD 14 0).getLsbD 3 = true → (p.getD 17 0).getLsbD 3 = true →
    y.stream = (wireFrame p).map rxByteSym ++ stream →
    ∃ b, b.sound ∧ b.st = 0 ∧ systemRun (p.length + 4) y =
      .next { y with
        block := b, stream := stream, loop := { y.loop with tip := y.loop.tip + 1 }
        actions := y.actions ++
          [.wrote (builtFrame y.block.destAddr64 0x44 0x30 [0x05] true), .waited y.latchDelay,
            .wrote (builtFrame y.block.destAddr64 0x44 0x30 [0x04] true)] }
end

