-- ==== Sys2Proof/Laws/Bytes.lean ====
section
/-!
SUPPORT. The small lemmas of byte order, sums and the wire form of a frame.
-/

namespace Sys2Proof.Machine

/-! ### Byte order -/

theorem be16_toNat (hi lo : Byte) : (be16 hi lo).toNat = hi.toNat * 256 + lo.toNat := by
  have := lo.isLt
  simp only [be16, BitVec.toNat_append]
  rw [← Nat.shiftLeft_add_eq_or_of_lt (by simpa using lo.isLt), Nat.shiftLeft_eq]

@[simp] theorem hiByte_be16 (hi lo : Byte) : hiByte (be16 hi lo) = hi := by
  apply BitVec.eq_of_toNat_eq
  have := hi.isLt
  have := lo.isLt
  simp only [hiByte, BitVec.extractLsb'_toNat, be16_toNat, Nat.shiftRight_eq_div_pow]
  omega

@[simp] theorem loByte_be16 (hi lo : Byte) : loByte (be16 hi lo) = lo := by
  apply BitVec.eq_of_toNat_eq
  have := hi.isLt
  have := lo.isLt
  simp only [loByte, BitVec.extractLsb'_toNat, be16_toNat, Nat.shiftRight_eq_div_pow]
  omega

@[simp] theorem be16_hiByte_loByte (v : Half) : be16 (hiByte v) (loByte v) = v := by
  apply BitVec.eq_of_toNat_eq
  have := v.isLt
  simp only [be16_toNat, hiByte, loByte, BitVec.extractLsb'_toNat, Nat.shiftRight_eq_div_pow]
  omega

@[simp] theorem be16Bytes_be16 (hi lo : Byte) : be16Bytes (be16 hi lo) = [hi, lo] := by
  simp [be16Bytes]

@[simp] theorem be16Bytes_length (v : Half) : (be16Bytes v).length = 2 := rfl

@[simp] theorem be64Bytes_length (v : BitVec 64) : (be64Bytes v).length = 8 := rfl

@[simp] theorem hiByte_lenWithLo (len : Half) (b : Byte) : hiByte (lenWithLo len b) = hiByte len := by
  simp [lenWithLo]

@[simp] theorem loByte_lenWithLo (len : Half) (b : Byte) : loByte (lenWithLo len b) = b := by
  simp [lenWithLo]

@[simp] theorem hiByte_lenWithHi (b : Byte) : hiByte (lenWithHi b) = b := by simp [lenWithHi]

/-- Behind a length guard `byteAt` is the byte there (R41). -/
theorem byteAt_eq_getElem (p : List Byte) (i : Nat) (h : i < p.length) : byteAt p i = p[i] := by
  simp [byteAt, h]

/-! ### Sums -/

@[simp] theorem sumBytes_nil : sumBytes [] = 0 := rfl

@[simp] theorem sumBytes_cons (b : Byte) (p : List Byte) : sumBytes (b :: p) = b.toNat + sumBytes p := rfl

@[simp] theorem sumBytes_append (p q : List Byte) : sumBytes (p ++ q) = sumBytes p + sumBytes q := by
  induction p with
  | nil => simp
  | cons b p ih => simp [ih, Nat.add_assoc]

theorem sumBytes_eq_sum_map (p : List Byte) : sumBytes p = (p.map BitVec.toNat).sum := by
  induction p with
  | nil => rfl
  | cons b p ih => simp [ih]

theorem checksumOf_toNat (p : List Byte) : (checksumOf p).toNat = 255 - sumBytes p % 256 := by
  simp only [checksumOf, BitVec.toNat_ofNat]
  omega

theorem checksumHolds_iff (f : List Byte) : checksumHolds f = true ↔ sumBytes (f.drop 3) % 256 = 255 := by
  simp [checksumHolds]

/-! ### The wire form of a frame -/

theorem wireFrame_eq (p : List Byte) :
    wireFrame p = Config.delim :: hiByte (BitVec.ofNat 16 p.length) ::
      loByte (BitVec.ofNat 16 p.length) :: (p ++ [checksumOf p]) := by
  simp [wireFrame, be16Bytes]

@[simp] theorem wireFrame_length (p : List Byte) : (wireFrame p).length = p.length + 4 := by
  simp [wireFrame_eq]

end Sys2Proof.Machine
end

