-- ==== Sys2Proof/Laws/Decode.lean ====
section
/-!
SUPPORT. The small lemmas of the `rx` symbols and of the view a step takes of a transaction.
-/

namespace Sys2Proof

@[simp] theorem rxData?_rxByteSym (b : Byte) : rxData? (rxByteSym b) = some b := by
  revert b
  decide

/-- Only the symbol `Byte(b)` carries the byte `b` (R71). -/
theorem rxData?_eq_some_iff (sym : BitVec 10) (b : Byte) : rxData? sym = some b ↔ sym = rxByteSym b := by
  constructor
  · intro h
    unfold rxData? at h
    split at h
    · rename_i hk
      cases h
      revert hk
      revert sym
      decide
    · cases h
  · rintro rfl
    exact rxData?_rxByteSym b

@[simp] theorem decodeRx_rxByteSym (b : Byte) : decodeRx (rxByteSym b) = .rxByte b := by
  simp [decodeRx]

@[simp] theorem decodeRx_timeout : decodeRx rxTimeoutSym = .rxTimeout := rfl

@[simp] theorem decodeRx_fault : decodeRx rxFaultSym = .rxFault := by decide

namespace Machine

@[simp] theorem viewTransaction_rst (s : State) (bit : BitVec 1) :
    viewTransaction s (.rst bit) = .port (.rst bit) := rfl

@[simp] theorem viewTransaction_rxByte (s : State) (b : Byte) :
    viewTransaction s (.rx (rxByteSym b)) = viewByte s b := by simp [viewTransaction]

/-- The command codes a step names, with the two bytes they are (R68). -/
theorem knownCommand_eq_some (c : List Byte) (v : Half) (h : knownCommand c = some v) :
    c = be16Bytes v ∧ (v = Config.cmdD0 ∨ v = Config.cmdPctV) := by
  unfold knownCommand at h
  split at h
  · split at h
    · cases h
      exact ⟨by simp, by assumption⟩
    · cases h
  · cases h

end Machine

end Sys2Proof
end

