-- ==== Sys2Proof/Laws/State.lean ====
section
/-!
SUPPORT. One lemma per field of the state per named update, true by definition, so that no later proof
unfolds a record update.
-/

namespace Sys2Proof.Machine

variable (s : State)

/-! ### State.quiet -/

@[simp] theorem State.quiet_resetDone : (s.quiet).resetDone = s.resetDone := rfl
@[simp] theorem State.quiet_st : (s.quiet).st = s.st := rfl
@[simp] theorem State.quiet_len : (s.quiet).len = s.len := rfl
@[simp] theorem State.quiet_cnt : (s.quiet).cnt = s.cnt := rfl
@[simp] theorem State.quiet_sum : (s.quiet).sum = s.sum := rfl
@[simp] theorem State.quiet_buf : (s.quiet).buf = s.buf := rfl
@[simp] theorem State.quiet_stop : (s.quiet).stop = s.stop := rfl
@[simp] theorem State.quiet_destAddr64 : (s.quiet).destAddr64 = s.destAddr64 := rfl
@[simp] theorem State.quiet_evt : (s.quiet).evt = none := rfl
@[simp] theorem State.quiet_res : (s.quiet).res = none := rfl
@[simp] theorem State.quiet_tx : (s.quiet).tx = none := rfl
@[simp] theorem State.quiet_runRefused : (s.quiet).runRefused = s.runRefused := rfl
@[simp] theorem State.quiet_inputs : (s.quiet).inputs = s.inputs := rfl

/-! ### State.emit -/

@[simp] theorem State.emit_resetDone (e : Event) : (s.emit e).resetDone = s.resetDone := rfl
@[simp] theorem State.emit_st (e : Event) : (s.emit e).st = s.st := rfl
@[simp] theorem State.emit_len (e : Event) : (s.emit e).len = s.len := rfl
@[simp] theorem State.emit_cnt (e : Event) : (s.emit e).cnt = s.cnt := rfl
@[simp] theorem State.emit_sum (e : Event) : (s.emit e).sum = s.sum := rfl
@[simp] theorem State.emit_buf (e : Event) : (s.emit e).buf = s.buf := rfl
@[simp] theorem State.emit_stop (e : Event) : (s.emit e).stop = s.stop := rfl
@[simp] theorem State.emit_destAddr64 (e : Event) : (s.emit e).destAddr64 = s.destAddr64 := rfl
@[simp] theorem State.emit_evt (e : Event) : (s.emit e).evt = some e := rfl
@[simp] theorem State.emit_res (e : Event) : (s.emit e).res = s.res := rfl
@[simp] theorem State.emit_tx (e : Event) : (s.emit e).tx = s.tx := rfl
@[simp] theorem State.emit_runRefused (e : Event) : (s.emit e).runRefused = s.runRefused := rfl
@[simp] theorem State.emit_inputs (e : Event) : (s.emit e).inputs = s.inputs := rfl

/-! ### State.answer -/

@[simp] theorem State.answer_resetDone (r : Result) : (s.answer r).resetDone = s.resetDone := rfl
@[simp] theorem State.answer_st (r : Result) : (s.answer r).st = s.st := rfl
@[simp] theorem State.answer_len (r : Result) : (s.answer r).len = s.len := rfl
@[simp] theorem State.answer_cnt (r : Result) : (s.answer r).cnt = s.cnt := rfl
@[simp] theorem State.answer_sum (r : Result) : (s.answer r).sum = s.sum := rfl
@[simp] theorem State.answer_buf (r : Result) : (s.answer r).buf = s.buf := rfl
@[simp] theorem State.answer_stop (r : Result) : (s.answer r).stop = s.stop := rfl
@[simp] theorem State.answer_destAddr64 (r : Result) : (s.answer r).destAddr64 = s.destAddr64 := rfl
@[simp] theorem State.answer_evt (r : Result) : (s.answer r).evt = s.evt := rfl
@[simp] theorem State.answer_res (r : Result) : (s.answer r).res = some r := rfl
@[simp] theorem State.answer_tx (r : Result) : (s.answer r).tx = s.tx := rfl
@[simp] theorem State.answer_runRefused (r : Result) : (s.answer r).runRefused = s.runRefused := rfl
@[simp] theorem State.answer_inputs (r : Result) : (s.answer r).inputs = s.inputs := rfl

/-! ### State.transmit -/

@[simp] theorem State.transmit_resetDone (f : List Byte) : (s.transmit f).resetDone = s.resetDone := rfl
@[simp] theorem State.transmit_st (f : List Byte) : (s.transmit f).st = s.st := rfl
@[simp] theorem State.transmit_len (f : List Byte) : (s.transmit f).len = s.len := rfl
@[simp] theorem State.transmit_cnt (f : List Byte) : (s.transmit f).cnt = s.cnt := rfl
@[simp] theorem State.transmit_sum (f : List Byte) : (s.transmit f).sum = s.sum := rfl
@[simp] theorem State.transmit_buf (f : List Byte) : (s.transmit f).buf = s.buf := rfl
@[simp] theorem State.transmit_stop (f : List Byte) : (s.transmit f).stop = s.stop := rfl
@[simp] theorem State.transmit_destAddr64 (f : List Byte) : (s.transmit f).destAddr64 = s.destAddr64 := rfl
@[simp] theorem State.transmit_evt (f : List Byte) : (s.transmit f).evt = s.evt := rfl
@[simp] theorem State.transmit_res (f : List Byte) : (s.transmit f).res = s.res := rfl
@[simp] theorem State.transmit_tx (f : List Byte) : (s.transmit f).tx = some f := rfl
@[simp] theorem State.transmit_runRefused (f : List Byte) : (s.transmit f).runRefused = s.runRefused := rfl
@[simp] theorem State.transmit_inputs (f : List Byte) : (s.transmit f).inputs = s.inputs := rfl

/-! ### State.refuse -/

@[simp] theorem State.refuse_resetDone (r : RefuseReason) : (s.refuse r).resetDone = s.resetDone := rfl
@[simp] theorem State.refuse_st (r : RefuseReason) : (s.refuse r).st = s.st := rfl
@[simp] theorem State.refuse_len (r : RefuseReason) : (s.refuse r).len = s.len := rfl
@[simp] theorem State.refuse_cnt (r : RefuseReason) : (s.refuse r).cnt = s.cnt := rfl
@[simp] theorem State.refuse_sum (r : RefuseReason) : (s.refuse r).sum = s.sum := rfl
@[simp] theorem State.refuse_buf (r : RefuseReason) : (s.refuse r).buf = s.buf := rfl
@[simp] theorem State.refuse_stop (r : RefuseReason) : (s.refuse r).stop = s.stop := rfl
@[simp] theorem State.refuse_destAddr64 (r : RefuseReason) : (s.refuse r).destAddr64 = s.destAddr64 := rfl
@[simp] theorem State.refuse_evt (r : RefuseReason) : (s.refuse r).evt = s.evt := rfl
@[simp] theorem State.refuse_res (r : RefuseReason) : (s.refuse r).res = some (.refusal r) := rfl
@[simp] theorem State.refuse_tx (r : RefuseReason) : (s.refuse r).tx = s.tx := rfl
@[simp] theorem State.refuse_runRefused (r : RefuseReason) : (s.refuse r).runRefused = true := rfl
@[simp] theorem State.refuse_inputs (r : RefuseReason) : (s.refuse r).inputs = s.inputs := rfl

/-! ### State.clear -/

@[simp] theorem State.clear_resetDone : (s.clear).resetDone = s.resetDone := rfl
@[simp] theorem State.clear_st : (s.clear).st = s.st := rfl
@[simp] theorem State.clear_len : (s.clear).len = 0 := rfl
@[simp] theorem State.clear_cnt : (s.clear).cnt = 0 := rfl
@[simp] theorem State.clear_sum : (s.clear).sum = 0 := rfl
@[simp] theorem State.clear_buf : (s.clear).buf = [] := rfl
@[simp] theorem State.clear_stop : (s.clear).stop = s.stop := rfl
@[simp] theorem State.clear_destAddr64 : (s.clear).destAddr64 = s.destAddr64 := rfl
@[simp] theorem State.clear_evt : (s.clear).evt = s.evt := rfl
@[simp] theorem State.clear_res : (s.clear).res = s.res := rfl
@[simp] theorem State.clear_tx : (s.clear).tx = s.tx := rfl
@[simp] theorem State.clear_runRefused : (s.clear).runRefused = s.runRefused := rfl
@[simp] theorem State.clear_inputs : (s.clear).inputs = s.inputs := rfl

/-! ### State.awaitDelim -/

@[simp] theorem State.awaitDelim_resetDone : (s.awaitDelim).resetDone = s.resetDone := rfl
@[simp] theorem State.awaitDelim_st : (s.awaitDelim).st = 0 := rfl
@[simp] theorem State.awaitDelim_len : (s.awaitDelim).len = 0 := rfl
@[simp] theorem State.awaitDelim_cnt : (s.awaitDelim).cnt = 0 := rfl
@[simp] theorem State.awaitDelim_sum : (s.awaitDelim).sum = 0 := rfl
@[simp] theorem State.awaitDelim_buf : (s.awaitDelim).buf = [] := rfl
@[simp] theorem State.awaitDelim_stop : (s.awaitDelim).stop = s.stop := rfl
@[simp] theorem State.awaitDelim_destAddr64 : (s.awaitDelim).destAddr64 = s.destAddr64 := rfl
@[simp] theorem State.awaitDelim_evt : (s.awaitDelim).evt = s.evt := rfl
@[simp] theorem State.awaitDelim_res : (s.awaitDelim).res = s.res := rfl
@[simp] theorem State.awaitDelim_tx : (s.awaitDelim).tx = s.tx := rfl
@[simp] theorem State.awaitDelim_runRefused : (s.awaitDelim).runRefused = s.runRefused := rfl
@[simp] theorem State.awaitDelim_inputs : (s.awaitDelim).inputs = s.inputs := rfl

/-! ### State.stopReceive -/

@[simp] theorem State.stopReceive_resetDone (e : Event) (why : BitVec 2) : (s.stopReceive e why).resetDone = s.resetDone := rfl
@[simp] theorem State.stopReceive_st (e : Event) (why : BitVec 2) : (s.stopReceive e why).st = 4 := rfl
@[simp] theorem State.stopReceive_len (e : Event) (why : BitVec 2) : (s.stopReceive e why).len = 0 := rfl
@[simp] theorem State.stopReceive_cnt (e : Event) (why : BitVec 2) : (s.stopReceive e why).cnt = 0 := rfl
@[simp] theorem State.stopReceive_sum (e : Event) (why : BitVec 2) : (s.stopReceive e why).sum = 0 := rfl
@[simp] theorem State.stopReceive_buf (e : Event) (why : BitVec 2) : (s.stopReceive e why).buf = [] := rfl
@[simp] theorem State.stopReceive_stop (e : Event) (why : BitVec 2) : (s.stopReceive e why).stop = why := rfl
@[simp] theorem State.stopReceive_destAddr64 (e : Event) (why : BitVec 2) : (s.stopReceive e why).destAddr64 = s.destAddr64 := rfl
@[simp] theorem State.stopReceive_evt (e : Event) (why : BitVec 2) : (s.stopReceive e why).evt = some e := rfl
@[simp] theorem State.stopReceive_res (e : Event) (why : BitVec 2) : (s.stopReceive e why).res = s.res := rfl
@[simp] theorem State.stopReceive_tx (e : Event) (why : BitVec 2) : (s.stopReceive e why).tx = s.tx := rfl
@[simp] theorem State.stopReceive_runRefused (e : Event) (why : BitVec 2) : (s.stopReceive e why).runRefused = s.runRefused := rfl
@[simp] theorem State.stopReceive_inputs (e : Event) (why : BitVec 2) : (s.stopReceive e why).inputs = s.inputs := rfl

/-! ### State.restart -/

@[simp] theorem State.restart_resetDone : (s.restart).resetDone = true := rfl
@[simp] theorem State.restart_st : (s.restart).st = 0 := rfl
@[simp] theorem State.restart_len : (s.restart).len = 0 := rfl
@[simp] theorem State.restart_cnt : (s.restart).cnt = 0 := rfl
@[simp] theorem State.restart_sum : (s.restart).sum = 0 := rfl
@[simp] theorem State.restart_buf : (s.restart).buf = [] := rfl
@[simp] theorem State.restart_stop : (s.restart).stop = 0 := rfl
@[simp] theorem State.restart_destAddr64 : (s.restart).destAddr64 = s.destAddr64 := rfl
@[simp] theorem State.restart_evt : (s.restart).evt = s.evt := rfl
@[simp] theorem State.restart_res : (s.restart).res = s.res := rfl
@[simp] theorem State.restart_tx : (s.restart).tx = s.tx := rfl
@[simp] theorem State.restart_runRefused : (s.restart).runRefused = s.runRefused := rfl
@[simp] theorem State.restart_inputs : (s.restart).inputs = s.inputs := rfl

/-! ### State.startFrame -/

@[simp] theorem State.startFrame_resetDone : (s.startFrame).resetDone = s.resetDone := rfl
@[simp] theorem State.startFrame_st : (s.startFrame).st = 1 := rfl
@[simp] theorem State.startFrame_len : (s.startFrame).len = s.len := rfl
@[simp] theorem State.startFrame_cnt : (s.startFrame).cnt = s.cnt := rfl
@[simp] theorem State.startFrame_sum : (s.startFrame).sum = s.sum := rfl
@[simp] theorem State.startFrame_buf : (s.startFrame).buf = [0x7E] := rfl
@[simp] theorem State.startFrame_stop : (s.startFrame).stop = s.stop := rfl
@[simp] theorem State.startFrame_destAddr64 : (s.startFrame).destAddr64 = s.destAddr64 := rfl
@[simp] theorem State.startFrame_evt : (s.startFrame).evt = s.evt := rfl
@[simp] theorem State.startFrame_res : (s.startFrame).res = s.res := rfl
@[simp] theorem State.startFrame_tx : (s.startFrame).tx = s.tx := rfl
@[simp] theorem State.startFrame_runRefused : (s.startFrame).runRefused = s.runRefused := rfl
@[simp] theorem State.startFrame_inputs : (s.startFrame).inputs = s.inputs := rfl

/-! ### State.malformed -/

@[simp] theorem State.malformed_resetDone (b : Byte) : (s.malformed b).resetDone = s.resetDone := rfl
@[simp] theorem State.malformed_st (b : Byte) : (s.malformed b).st = s.st := rfl
@[simp] theorem State.malformed_len (b : Byte) : (s.malformed b).len = s.len := rfl
@[simp] theorem State.malformed_cnt (b : Byte) : (s.malformed b).cnt = s.cnt := rfl
@[simp] theorem State.malformed_sum (b : Byte) : (s.malformed b).sum = s.sum := rfl
@[simp] theorem State.malformed_buf (b : Byte) : (s.malformed b).buf = s.buf := rfl
@[simp] theorem State.malformed_stop (b : Byte) : (s.malformed b).stop = s.stop := rfl
@[simp] theorem State.malformed_destAddr64 (b : Byte) : (s.malformed b).destAddr64 = s.destAddr64 := rfl
@[simp] theorem State.malformed_evt (b : Byte) : (s.malformed b).evt = some (.malformedFrame b) := rfl
@[simp] theorem State.malformed_res (b : Byte) : (s.malformed b).res = s.res := rfl
@[simp] theorem State.malformed_tx (b : Byte) : (s.malformed b).tx = s.tx := rfl
@[simp] theorem State.malformed_runRefused (b : Byte) : (s.malformed b).runRefused = s.runRefused := rfl
@[simp] theorem State.malformed_inputs (b : Byte) : (s.malformed b).inputs = s.inputs := rfl

/-! ### State.takeLenHi -/

@[simp] theorem State.takeLenHi_resetDone (b : Byte) : (s.takeLenHi b).resetDone = s.resetDone := rfl
@[simp] theorem State.takeLenHi_st (b : Byte) : (s.takeLenHi b).st = 2 := rfl
@[simp] theorem State.takeLenHi_len (b : Byte) : (s.takeLenHi b).len = lenWithHi b := rfl
@[simp] theorem State.takeLenHi_cnt (b : Byte) : (s.takeLenHi b).cnt = s.cnt := rfl
@[simp] theorem State.takeLenHi_sum (b : Byte) : (s.takeLenHi b).sum = s.sum := rfl
@[simp] theorem State.takeLenHi_buf (b : Byte) : (s.takeLenHi b).buf = s.buf ++ [b] := rfl
@[simp] theorem State.takeLenHi_stop (b : Byte) : (s.takeLenHi b).stop = s.stop := rfl
@[simp] theorem State.takeLenHi_destAddr64 (b : Byte) : (s.takeLenHi b).destAddr64 = s.destAddr64 := rfl
@[simp] theorem State.takeLenHi_evt (b : Byte) : (s.takeLenHi b).evt = s.evt := rfl
@[simp] theorem State.takeLenHi_res (b : Byte) : (s.takeLenHi b).res = s.res := rfl
@[simp] theorem State.takeLenHi_tx (b : Byte) : (s.takeLenHi b).tx = s.tx := rfl
@[simp] theorem State.takeLenHi_runRefused (b : Byte) : (s.takeLenHi b).runRefused = s.runRefused := rfl
@[simp] theorem State.takeLenHi_inputs (b : Byte) : (s.takeLenHi b).inputs = s.inputs := rfl

/-! ### State.takeLenLo -/

@[simp] theorem State.takeLenLo_resetDone (b : Byte) : (s.takeLenLo b).resetDone = s.resetDone := rfl
@[simp] theorem State.takeLenLo_st (b : Byte) : (s.takeLenLo b).st = 3 := rfl
@[simp] theorem State.takeLenLo_len (b : Byte) : (s.takeLenLo b).len = lenWithLo s.len b := rfl
@[simp] theorem State.takeLenLo_cnt (b : Byte) : (s.takeLenLo b).cnt = 0 := rfl
@[simp] theorem State.takeLenLo_sum (b : Byte) : (s.takeLenLo b).sum = 0 := rfl
@[simp] theorem State.takeLenLo_buf (b : Byte) : (s.takeLenLo b).buf = s.buf ++ [b] := rfl
@[simp] theorem State.takeLenLo_stop (b : Byte) : (s.takeLenLo b).stop = s.stop := rfl
@[simp] theorem State.takeLenLo_destAddr64 (b : Byte) : (s.takeLenLo b).destAddr64 = s.destAddr64 := rfl
@[simp] theorem State.takeLenLo_evt (b : Byte) : (s.takeLenLo b).evt = s.evt := rfl
@[simp] theorem State.takeLenLo_res (b : Byte) : (s.takeLenLo b).res = s.res := rfl
@[simp] theorem State.takeLenLo_tx (b : Byte) : (s.takeLenLo b).tx = s.tx := rfl
@[simp] theorem State.takeLenLo_runRefused (b : Byte) : (s.takeLenLo b).runRefused = s.runRefused := rfl
@[simp] theorem State.takeLenLo_inputs (b : Byte) : (s.takeLenLo b).inputs = s.inputs := rfl

/-! ### State.takeBody -/

@[simp] theorem State.takeBody_resetDone (b : Byte) : (s.takeBody b).resetDone = s.resetDone := rfl
@[simp] theorem State.takeBody_st (b : Byte) : (s.takeBody b).st = s.st := rfl
@[simp] theorem State.takeBody_len (b : Byte) : (s.takeBody b).len = s.len := rfl
@[simp] theorem State.takeBody_cnt (b : Byte) : (s.takeBody b).cnt = s.cnt + 1 := rfl
@[simp] theorem State.takeBody_sum (b : Byte) : (s.takeBody b).sum = s.sum + b := rfl
@[simp] theorem State.takeBody_buf (b : Byte) : (s.takeBody b).buf = s.buf ++ [b] := rfl
@[simp] theorem State.takeBody_stop (b : Byte) : (s.takeBody b).stop = s.stop := rfl
@[simp] theorem State.takeBody_destAddr64 (b : Byte) : (s.takeBody b).destAddr64 = s.destAddr64 := rfl
@[simp] theorem State.takeBody_evt (b : Byte) : (s.takeBody b).evt = s.evt := rfl
@[simp] theorem State.takeBody_res (b : Byte) : (s.takeBody b).res = s.res := rfl
@[simp] theorem State.takeBody_tx (b : Byte) : (s.takeBody b).tx = s.tx := rfl
@[simp] theorem State.takeBody_runRefused (b : Byte) : (s.takeBody b).runRefused = s.runRefused := rfl
@[simp] theorem State.takeBody_inputs (b : Byte) : (s.takeBody b).inputs = s.inputs := rfl

/-! ### State.acceptFrame -/

@[simp] theorem State.acceptFrame_resetDone (r : FrameRecord) : (s.acceptFrame r).resetDone = s.resetDone := rfl
@[simp] theorem State.acceptFrame_st (r : FrameRecord) : (s.acceptFrame r).st = 0 := rfl
@[simp] theorem State.acceptFrame_len (r : FrameRecord) : (s.acceptFrame r).len = 0 := rfl
@[simp] theorem State.acceptFrame_cnt (r : FrameRecord) : (s.acceptFrame r).cnt = 0 := rfl
@[simp] theorem State.acceptFrame_sum (r : FrameRecord) : (s.acceptFrame r).sum = 0 := rfl
@[simp] theorem State.acceptFrame_buf (r : FrameRecord) : (s.acceptFrame r).buf = [] := rfl
@[simp] theorem State.acceptFrame_stop (r : FrameRecord) : (s.acceptFrame r).stop = s.stop := rfl
@[simp] theorem State.acceptFrame_destAddr64 (r : FrameRecord) : (s.acceptFrame r).destAddr64 = s.destAddr64 := rfl
@[simp] theorem State.acceptFrame_evt (r : FrameRecord) : (s.acceptFrame r).evt = some (.frameOk r) := rfl
@[simp] theorem State.acceptFrame_res (r : FrameRecord) : (s.acceptFrame r).res = s.res := rfl
@[simp] theorem State.acceptFrame_tx (r : FrameRecord) : (s.acceptFrame r).tx = s.tx := rfl
@[simp] theorem State.acceptFrame_runRefused (r : FrameRecord) : (s.acceptFrame r).runRefused = s.runRefused := rfl
@[simp] theorem State.acceptFrame_inputs (r : FrameRecord) : (s.acceptFrame r).inputs = s.inputs := rfl

/-! ### State.popInput -/

@[simp] theorem State.popInput_resetDone : (s.popInput).resetDone = s.resetDone := rfl
@[simp] theorem State.popInput_st : (s.popInput).st = s.st := rfl
@[simp] theorem State.popInput_len : (s.popInput).len = s.len := rfl
@[simp] theorem State.popInput_cnt : (s.popInput).cnt = s.cnt := rfl
@[simp] theorem State.popInput_sum : (s.popInput).sum = s.sum := rfl
@[simp] theorem State.popInput_buf : (s.popInput).buf = s.buf := rfl
@[simp] theorem State.popInput_stop : (s.popInput).stop = s.stop := rfl
@[simp] theorem State.popInput_destAddr64 : (s.popInput).destAddr64 = s.destAddr64 := rfl
@[simp] theorem State.popInput_evt : (s.popInput).evt = s.evt := rfl
@[simp] theorem State.popInput_res : (s.popInput).res = s.res := rfl
@[simp] theorem State.popInput_tx : (s.popInput).tx = s.tx := rfl
@[simp] theorem State.popInput_runRefused : (s.popInput).runRefused = s.runRefused := rfl
@[simp] theorem State.popInput_inputs : (s.popInput).inputs = s.inputs.tail := rfl

/-! ### State.pushInput -/

@[simp] theorem State.pushInput_resetDone (t : Transaction) : (s.pushInput t).resetDone = s.resetDone := rfl
@[simp] theorem State.pushInput_st (t : Transaction) : (s.pushInput t).st = s.st := rfl
@[simp] theorem State.pushInput_len (t : Transaction) : (s.pushInput t).len = s.len := rfl
@[simp] theorem State.pushInput_cnt (t : Transaction) : (s.pushInput t).cnt = s.cnt := rfl
@[simp] theorem State.pushInput_sum (t : Transaction) : (s.pushInput t).sum = s.sum := rfl
@[simp] theorem State.pushInput_buf (t : Transaction) : (s.pushInput t).buf = s.buf := rfl
@[simp] theorem State.pushInput_stop (t : Transaction) : (s.pushInput t).stop = s.stop := rfl
@[simp] theorem State.pushInput_destAddr64 (t : Transaction) : (s.pushInput t).destAddr64 = s.destAddr64 := rfl
@[simp] theorem State.pushInput_evt (t : Transaction) : (s.pushInput t).evt = s.evt := rfl
@[simp] theorem State.pushInput_res (t : Transaction) : (s.pushInput t).res = s.res := rfl
@[simp] theorem State.pushInput_tx (t : Transaction) : (s.pushInput t).tx = s.tx := rfl
@[simp] theorem State.pushInput_runRefused (t : Transaction) : (s.pushInput t).runRefused = s.runRefused := rfl
@[simp] theorem State.pushInput_inputs (t : Transaction) : (s.pushInput t).inputs = t :: s.inputs := rfl

/-! ### Reset -/

@[simp] theorem State.resetWith_resetDone (addr : BitVec 64) : (State.resetWith addr).resetDone = true := rfl
@[simp] theorem State.resetWith_st (addr : BitVec 64) : (State.resetWith addr).st = 0 := rfl
@[simp] theorem State.resetWith_len (addr : BitVec 64) : (State.resetWith addr).len = 0 := rfl
@[simp] theorem State.resetWith_cnt (addr : BitVec 64) : (State.resetWith addr).cnt = 0 := rfl
@[simp] theorem State.resetWith_sum (addr : BitVec 64) : (State.resetWith addr).sum = 0 := rfl
@[simp] theorem State.resetWith_buf (addr : BitVec 64) : (State.resetWith addr).buf = [] := rfl
@[simp] theorem State.resetWith_stop (addr : BitVec 64) : (State.resetWith addr).stop = 0 := rfl
@[simp] theorem State.resetWith_destAddr64 (addr : BitVec 64) : (State.resetWith addr).destAddr64 = addr := rfl
@[simp] theorem State.resetWith_evt (addr : BitVec 64) : (State.resetWith addr).evt = none := rfl
@[simp] theorem State.resetWith_res (addr : BitVec 64) : (State.resetWith addr).res = none := rfl
@[simp] theorem State.resetWith_tx (addr : BitVec 64) : (State.resetWith addr).tx = none := rfl
@[simp] theorem State.resetWith_runRefused (addr : BitVec 64) : (State.resetWith addr).runRefused = false := rfl
@[simp] theorem State.resetWith_inputs (addr : BitVec 64) : (State.resetWith addr).inputs = [] := rfl

end Sys2Proof.Machine
end

