-- ==== Sys2Proof/Laws/Ops.lean ====
section
/-!
SUPPORT. For each shared operation, once, everything it can answer: the lemmas later proofs cite instead of
unfolding the operation.
-/

namespace Sys2Proof.Machine

/-! ### The parser state -/

@[simp] theorem parserState?_stCode (p : ParserState) : parserState? (stCode p) = some p := by
  cases p <;> rfl

theorem parserState?_eq_some_iff (v : BitVec 3) (p : ParserState) :
    parserState? v = some p ↔ v = stCode p := by
  revert v p
  intro v p
  cases p <;> revert v <;> decide

theorem parserState?_eq_none_iff (v : BitVec 3) : parserState? v = none ↔ 4 < v.toNat := by
  revert v
  decide

/-! ### The guards -/

@[simp] theorem afterReset_of_resetDone (s : State) (k : State → StepResult) (h : s.resetDone = true) :
    afterReset s k = k s.quiet := by simp [afterReset, h]

@[simp] theorem afterReset_of_not_resetDone (s : State) (k : State → StepResult) (h : s.resetDone = false) :
    afterReset s k = .fault .notReset := by simp [afterReset, h]

theorem afterReset_next (s t : State) (k : State → StepResult) :
    afterReset s k = .next t ↔ s.resetDone = true ∧ k s.quiet = .next t := by
  cases h : s.resetDone <;> simp [h]

/-- A live state, `STOPPED`, or a fault: all that an `rx` symbol can meet. -/
theorem whileLive_next (s t : State) (k : ParserState → State → State) :
    whileLive s k = .next t ↔
      (s.st = stCode .stopped ∧ t = s) ∨
        ∃ live, live ≠ .stopped ∧ s.st = stCode live ∧ t = k live s := by
  simp only [← parserState?_eq_some_iff]
  unfold whileLive
  cases h : parserState? s.st with
  | none => simp
  | some live => cases live <;> simp [eq_comm (a := t)]

theorem whileLive_of_stCode (s : State) (k : ParserState → State → State) (live : ParserState)
    (h : s.st = stCode live) (hl : live ≠ .stopped) : whileLive s k = .next (k live s) := by
  unfold whileLive
  rw [h, parserState?_stCode]
  cases live <;> first | rfl | contradiction

theorem whileLive_of_stopped (s : State) (k : ParserState → State → State)
    (h : s.st = stCode .stopped) : whileLive s k = .next s := by
  unfold whileLive
  rw [h, parserState?_stCode]

theorem whileLive_of_illegal (s : State) (k : ParserState → State → State) (h : 4 < s.st.toNat) :
    whileLive s k = .fault .badParserState := by
  unfold whileLive
  rw [(parserState?_eq_none_iff s.st).2 h]

/-! ### Receiving -/

/-- What a byte on `rx` can do. -/
theorem receiveByte_next (b : Byte) (s t : State) :
    receiveByte b s = .next t ↔
      s.resetDone = true ∧
        ((s.st = stCode .stopped ∧ t = s.quiet) ∨
          ∃ live, live ≠ .stopped ∧ s.st = stCode live ∧ t = s.quiet.takeByte b live) := by
  simp [receiveByte, afterReset_next, whileLive_next]

/-- What a terminal `rx` symbol can do. -/
theorem receiveEnd_next (e : Event) (why : BitVec 2) (s t : State) :
    receiveEnd e why s = .next t ↔
      s.resetDone = true ∧
        ((s.st = stCode .stopped ∧ t = s.quiet) ∨
          (∃ live, live ≠ .stopped ∧ s.st = stCode live) ∧ t = s.quiet.stopReceive e why) := by
  simp only [receiveEnd, afterReset_next, whileLive_next, State.quiet_st]
  constructor
  · rintro ⟨hr, h | ⟨live, hl, hs, ht⟩⟩
    · exact ⟨hr, .inl h⟩
    · exact ⟨hr, .inr ⟨⟨live, hl, hs⟩, ht⟩⟩
  · rintro ⟨hr, h | ⟨⟨live, hl, hs⟩, ht⟩⟩
    · exact ⟨hr, .inl h⟩
    · exact ⟨hr, .inr ⟨live, hl, hs, ht⟩⟩

/-- What a validated frame can do. -/
theorem receiveFrame_next (r : FrameRecord) (s t : State) :
    receiveFrame r s = .next t ↔
      s.resetDone = true ∧
        ((s.st = stCode .stopped ∧ t = s.quiet) ∨
          (∃ live, live ≠ .stopped ∧ s.st = stCode live) ∧ t = s.quiet.acceptFrame r) := by
  simp only [receiveFrame, afterReset_next, whileLive_next, State.quiet_st]
  constructor
  · rintro ⟨hr, h | ⟨live, hl, hs, ht⟩⟩
    · exact ⟨hr, .inl h⟩
    · exact ⟨hr, .inr ⟨⟨live, hl, hs⟩, ht⟩⟩
  · rintro ⟨hr, h | ⟨⟨live, hl, hs⟩, ht⟩⟩
    · exact ⟨hr, .inl h⟩
    · exact ⟨hr, .inr ⟨live, hl, hs, ht⟩⟩

/-- The six things a byte can do in a live state (R121 to R126). -/
theorem takeByte_cases (b : Byte) (live : ParserState) (s : State) (hl : live ≠ .stopped) :
    (live = .awaitDelim ∧ b = Config.delim ∧ s.takeByte b live = s.startFrame) ∨
    (live = .awaitDelim ∧ b ≠ Config.delim ∧ s.takeByte b live = s.malformed b) ∨
    (live = .lenHi ∧ s.takeByte b live = s.takeLenHi b) ∨
    (live = .lenLo ∧ s.takeByte b live = s.takeLenLo b) ∨
    (live = .body ∧ s.moreBody = true ∧ s.takeByte b live = s.takeBody b) ∨
    (live = .body ∧ s.moreBody = false ∧ s.takeByte b live = s.finishFrame b) := by
  cases live with
  | stopped => exact absurd rfl hl
  | lenHi => simp [State.takeByte]
  | lenLo => simp [State.takeByte]
  | awaitDelim =>
    by_cases h : b = Config.delim
    · exact .inl ⟨rfl, h, if_pos h⟩
    · exact .inr (.inl ⟨rfl, h, if_neg h⟩)
  | body => cases h : s.moreBody <;> simp [State.takeByte, h]

/-- The two ways a frame ends (R126). -/
theorem finishFrame_cases (b : Byte) (s : State) :
    (s.verdict b = true ∧ s.finishFrame b = s.acceptFrame (classify (s.completedPayload b))) ∨
    (s.verdict b = false ∧ s.finishFrame b = s.awaitDelim.emit (.badChecksum (s.buf ++ [b]))) := by
  cases h : s.verdict b <;> simp [State.finishFrame, h]

/-- A byte leaves the strap, the reset mark, the refusal mark and the transactions to come alone. -/
theorem takeByte_keeps (b : Byte) (live : ParserState) (s : State) :
    (s.takeByte b live).resetDone = s.resetDone ∧ (s.takeByte b live).destAddr64 = s.destAddr64 ∧
      (s.takeByte b live).runRefused = s.runRefused ∧ (s.takeByte b live).inputs = s.inputs ∧
      (s.takeByte b live).stop = s.stop ∧ (s.takeByte b live).res = s.res ∧
      (s.takeByte b live).tx = s.tx := by
  by_cases hl : live = .stopped
  · subst hl; simp [State.takeByte]
  · obtain ⟨-, -, h⟩ | ⟨-, -, h⟩ | ⟨-, h⟩ | ⟨-, h⟩ | ⟨-, -, h⟩ | ⟨-, -, h⟩ := takeByte_cases b live s hl
    all_goals rw [h]
    all_goals first
      | simp
      | obtain ⟨-, hf⟩ | ⟨-, hf⟩ := finishFrame_cases b s <;> rw [hf] <;> simp

/-! ### Requests -/

theorem refuseRequest_next (r : RefuseReason) (s t : State) :
    refuseRequest r s = .next t ↔ s.resetDone = true ∧ t = s.quiet.refuse r := by
  simp [refuseRequest, afterReset_next, eq_comm (b := t)]

/-- What a request with no output on `tx` can do. -/
theorem answerRequest_next (o : Except RefuseReason Result) (s t : State) :
    answerRequest o s = .next t ↔
      s.resetDone = true ∧
        ((∃ r, o = .ok r ∧ t = s.quiet.answer r) ∨ ∃ r, o = .error r ∧ t = s.quiet.refuse r) := by
  cases o with
  | ok r => simp [answerRequest, afterReset_next, eq_comm (b := t)]
  | error r => simp [answerRequest, refuseRequest_next]

/-- What a build request can do. -/
theorem requestFrame_next (c q : List Byte) (disableAck : Bool) (s t : State) :
    requestFrame c q disableAck s = .next t ↔
      s.resetDone = true ∧
        ((∃ f, buildFrame s.destAddr64 c q disableAck = .ok f ∧
            t = (s.quiet.answer (.bytes f)).transmit f) ∨
          ∃ r, buildFrame s.destAddr64 c q disableAck = .error r ∧ t = s.quiet.refuse r) := by
  cases h : buildFrame s.destAddr64 c q disableAck with
  | ok f => simp [requestFrame, h, afterReset_next, eq_comm (b := t)]
  | error r => simp [requestFrame, h, refuseRequest_next]

/-- The three answers of the builder (R150, R151). -/
theorem buildFrame_cases (addr : BitVec 64) (c q : List Byte) (disableAck : Bool) :
    (c.length ≠ 2 ∧ buildFrame addr c q disableAck = .error .badCommandCode) ∨
    (c.length = 2 ∧ Config.maxParamBytes < q.length ∧
      buildFrame addr c q disableAck = .error .lengthOverflow) ∨
    (c.length = 2 ∧ q.length ≤ Config.maxParamBytes ∧
      buildFrame addr c q disableAck = .ok (wireFrame (remoteAtPayload addr c q disableAck))) := by
  by_cases hc : c.length = 2
  · by_cases hq : Config.maxParamBytes < q.length
    · exact .inr (.inl ⟨hc, hq, by simp [buildFrame, hc, hq]⟩)
    · exact .inr (.inr ⟨hc, Nat.le_of_not_lt hq, by simp [buildFrame, hc, hq]⟩)
  · exact .inl ⟨hc, by simp [buildFrame, hc]⟩

@[simp] theorem remoteAtPayload_length (addr : BitVec 64) (c q : List Byte) (disableAck : Bool) :
    (remoteAtPayload addr c q disableAck).length = Config.fixedFieldBytes + c.length + q.length := by
  simp [remoteAtPayload, Config.fixedFieldBytes]
  omega

/-! ### The step -/

theorem step_of_nil (s : State) (h : s.inputs = []) : step s = .next s.quiet := by simp [step, h]

theorem step_of_cons (s : State) (t : Transaction) (rest : List Transaction) (h : s.inputs = t :: rest) :
    step s = runWord (viewTransaction s t) s.popInput := by simp [step, h]

end Sys2Proof.Machine
end

