-- ==== Sys2Proof/Laws/Run.lean ====
section
/-!
SUPPORT. Runs of several steps.
-/

namespace Sys2Proof.Machine

@[simp] theorem run_zero (s : State) : run 0 s = .next s := rfl

theorem run_succ_of_next (k : Nat) (s t : State) (h : step s = .next t) : run (k + 1) s = run k t := by
  simp [run, h]

theorem run_one (s : State) : run 1 s = step s := by
  unfold run
  cases step s <;> rfl

/-- A run of `m + k` steps is a run of `m` steps and then one of `k`. -/
theorem run_add_of_next (m k : Nat) (s t : State) (h : run m s = .next t) : run (m + k) s = run k t := by
  induction m generalizing s with
  | zero => cases h; simp
  | succ m ih =>
    cases hs : step s with
    | next u =>
      rw [run_succ_of_next m s u hs] at h
      rw [Nat.add_right_comm, run_succ_of_next _ s u hs]
      exact ih u h
    | fault r => simp [run, hs] at h
    | refused r => simp [run, hs] at h

/-- The host's runner over the model's core is `run`. -/
theorem core_run_eq_run (k : Nat) (s : State) : Sys2Proof.core.run k s = run k s := by
  induction k generalizing s with
  | zero => rfl
  | succ k ih =>
    have e : Sys2Proof.core.step s = step s := rfl
    simp only [Host.Core.run, run, e]
    cases step s with
    | next t => exact ih t
    | fault r => rfl
    | refused r => rfl

end Sys2Proof.Machine
end

