-- ==== Sys2Proof/Laws/Loop.lean ====
section
/-!
SUPPORT. What the host model's operations can do, once each.
-/

namespace Sys2Proof.Machine

@[simp] theorem performDuties_nil (y : System) : performDuties [] y = .next y := rfl

theorem performDuties_cons_of_next (d : LoopDuty) (ds : List LoopDuty) (y z : System)
    (h : performDuty d y = .next z) : performDuties (d :: ds) y = performDuties ds z := by
  simp [performDuties, h]

@[simp] theorem performDuty_wait (y : System) :
    performDuty .wait y = .next { y with actions := y.actions ++ [.waited y.latchDelay] } := rfl

@[simp] theorem performDuty_surface (mv : BitVec 17) (y : System) :
    performDuty (.surface mv) y = .next { y with actions := y.actions ++ [.surfaced mv] } := rfl

/-- A send feeds the block one build request and writes what it puts on `tx` (R193, R194). -/
theorem performDuty_send_of_next (c q : List Byte) (disableAck : Bool) (y : System) (b : State)
    (h : feedBlock (.op 0x3 ⟨q, c, disableAck⟩) y.block = .next b) :
    performDuty (.send c q disableAck) y =
      .next { y with block := b, actions := y.actions ++ (b.tx.toList.map .wrote) } := by
  simp only [performDuty, h]

/-- A running loop handles the event of the symbol it feeds, whole (R197). -/
theorem systemStep_of_event (y : System) (sym : BitVec 10) (stream : List (BitVec 10)) (b : State)
    (e : Event) (hm : y.loop.mode = .running) (hs : y.stream = sym :: stream)
    (hf : feedBlock (.rx sym) y.block = .next b) (he : b.evt = some e) :
    systemStep y =
      performDuties (loopDuties e) { y with block := b, stream := stream, loop := loopAfter e y.loop } := by
  simp only [systemStep, hm, hs, hf, he]

/-- A step with no event changes the block and the stream only. -/
theorem systemStep_of_no_event (y : System) (sym : BitVec 10) (stream : List (BitVec 10)) (b : State)
    (hm : y.loop.mode = .running) (hs : y.stream = sym :: stream)
    (hf : feedBlock (.rx sym) y.block = .next b) (he : b.evt = none) :
    systemStep y = .next { y with block := b, stream := stream } := by
  simp only [systemStep, hm, hs, hf, he]

/-- A stopped loop feeds nothing (R191, R197, R198). -/
theorem systemStep_of_stopped (y : System) (r : LoopStop) (hm : y.loop.mode = .stopped r) :
    systemStep y = .next y := by simp [systemStep, hm]

end Sys2Proof.Machine
end

