-- ==== Sys2Proof/Laws/PerInstr.lean ====
section
/-!
SUPPORT. The statements made for every instruction, one lemma per constructor. `EncodeInRow`: the word of a
well-formed instruction is of its row's format and has its row's fixed bits (spec/opcode_table.json); the
symbols `Timeout` and `Fault` with nonzero data, which the row RX_RESERVED takes by its note, are named.
-/

namespace Sys2Proof.Laws.EncodeInRow

/-- The word of a well-formed instruction lies in its row. -/
def Statement (i : Instr) : Prop :=
  i.wellFormed = true → ∀ f w, tableBits (encode i) = some (f, w) →
    f = (rowOf i).format ∧
      (rowMatches (rowOf i) w = true ∨
        ∃ sym, i = .rxReserved sym ∧ w = sym.toNat ∧ sym.extractLsb' 8 2 ≠ 0 ∧
          sym.extractLsb' 0 8 ≠ 0)

theorem rxByte (b : Byte) : Statement (.rxByte b) := by
  intro _ f w h
  simp only [encode, tableBits, Option.some.injEq, Prod.mk.injEq] at h
  obtain ⟨rfl, rfl⟩ := h
  exact ⟨rfl, .inl (by revert b; decide)⟩

theorem rxTimeout : Statement .rxTimeout := by
  intro _ f w h; cases h; exact ⟨rfl, .inl rfl⟩

theorem rxFault : Statement .rxFault := by
  intro _ f w h; cases h; exact ⟨rfl, .inl rfl⟩

theorem reservedRx_split : ∀ sym : BitVec 10, reservedRx sym = true →
    sym.toNat &&& 0x300 = 0x300 ∨ (sym.extractLsb' 8 2 ≠ 0 ∧ sym.extractLsb' 0 8 ≠ 0) := by
  decide

theorem rxReserved (sym : BitVec 10) : Statement (.rxReserved sym) := by
  intro hw f w h
  simp only [encode, tableBits, Option.some.injEq, Prod.mk.injEq] at h
  obtain ⟨rfl, rfl⟩ := h
  refine ⟨rfl, (reservedRx_split sym hw).imp (fun h => ?_) fun h => ⟨sym, rfl, rfl, h⟩⟩
  simpa [rowMatches, rowOf] using h

theorem computeChecksum (p : List Byte) : Statement (.computeChecksum p) := by
  intro _ f w h; cases h; exact ⟨rfl, .inl (by simp [rowMatches, rowOf])⟩

theorem verifyChecksum (f : List Byte) : Statement (.verifyChecksum f) := by
  intro _ f w h; cases h; exact ⟨rfl, .inl (by simp [rowMatches, rowOf])⟩

theorem buildRemoteAt (c q : List Byte) (disableAck : Bool) : Statement (.buildRemoteAt c q disableAck) := by
  intro _ f w h; cases h; exact ⟨rfl, .inl (by simp [rowMatches, rowOf])⟩

theorem extractSwitch (p : List Byte) : Statement (.extractSwitch p) := by
  intro _ f w h; cases h; exact ⟨rfl, .inl (by simp [rowMatches, rowOf])⟩

theorem extractVoltage (p : List Byte) : Statement (.extractVoltage p) := by
  intro _ f w h; cases h; exact ⟨rfl, .inl (by simp [rowMatches, rowOf])⟩

theorem opReserved0 : Statement .opReserved0 := by
  intro _ f w h; cases h; exact ⟨rfl, .inl (by simp [rowMatches, rowOf])⟩

theorem opReserved67 (lo : BitVec 1) : Statement (.opReserved67 lo) := by
  intro _ f w h; cases h; exact ⟨rfl, .inl (by revert lo; decide)⟩

theorem opReserved8F (lo : BitVec 3) : Statement (.opReserved8F lo) := by
  intro _ f w h; cases h; exact ⟨rfl, .inl (by revert lo; decide)⟩

theorem reset : Statement .reset := by
  intro _ f w h; cases h; exact ⟨rfl, .inl (by simp [rowMatches, rowOf])⟩

theorem delimiter : Statement .delimiter := by
  intro _ f w h; cases h; exact ⟨rfl, .inl (by simp [rowMatches, rowOf])⟩

theorem nonDelimiter (b : Byte) : Statement (.nonDelimiter b) := by
  intro _ f w h; cases h; exact ⟨rfl, .inl (by revert b; decide)⟩

theorem typeRemoteAtCommand (rest : List Byte) : Statement (.typeRemoteAtCommand rest) := by
  intro _ f w h; cases h; exact ⟨rfl, .inl (by simp [rowMatches, rowOf])⟩

theorem typeIoDataSample (rest : List Byte) : Statement (.typeIoDataSample rest) := by
  intro _ f w h; cases h; exact ⟨rfl, .inl (by simp [rowMatches, rowOf])⟩

theorem typeAtCommandResponse (rest : List Byte) : Statement (.typeAtCommandResponse rest) := by
  intro _ f w h; cases h; exact ⟨rfl, .inl (by simp [rowMatches, rowOf])⟩

theorem typeUnrecognized (p : List Byte) : Statement (.typeUnrecognized p) := by
  intro _ f w h
  cases p with
  | nil => cases h
  | cons t rest => cases h; exact ⟨rfl, .inl (by simp [rowMatches, rowOf])⟩

theorem atCmdD0 (q : List Byte) (disableAck : Bool) : Statement (.atCmdD0 q disableAck) := by
  intro _ f w h; cases h; exact ⟨rfl, .inl (by simp [rowMatches, rowOf])⟩

theorem atCmdPctV (q : List Byte) (disableAck : Bool) : Statement (.atCmdPctV q disableAck) := by
  intro _ f w h; cases h; exact ⟨rfl, .inl (by simp [rowMatches, rowOf])⟩

end Sys2Proof.Laws.EncodeInRow
end

