-- ==== Sys2Proof/Tests/Slice0.lean ====
section
/-!
SUPPORT. The model's own tests: the words of every row written out from the spec's tables, the checks of
WellFormed, single steps whose expected values are the vectors of spec/95_test_vectors.md, and for each
statement with hypotheses a state and operands that meet them.
-/

namespace Sys2Proof.Tests

open Sys2Proof.Machine

/-! ### Helpers -/

/-- The state a step answers, if it answers one. -/
def next? : StepResult → Option State
  | .next t => some t
  | .fault _ => none
  | .refused _ => none

/-- The fault a step ends in, if it ends in one. -/
def fault? : StepResult → Option Fault
  | .next _ => none
  | .fault r => some r
  | .refused _ => none

/-- The event of a step. -/
def evt? (o : StepResult) : Option Event := (next? o).bind State.evt

/-- The result of a step. -/
def res? (o : StepResult) : Option Result := (next? o).bind State.res

/-- The parser registers. -/
structure Regs where
  st : BitVec 3
  len : BitVec 16
  cnt : BitVec 17
  sum : BitVec 8
  buf : List Byte
  stop : BitVec 2
deriving DecidableEq, Repr

/-- The parser registers after a step. -/
def regs? (o : StepResult) : Option Regs :=
  (next? o).map fun t => ⟨t.st, t.len, t.cnt, t.sum, t.buf, t.stop⟩

/-- A block after reset with the vectors' example address, its parser registers as given. -/
def block (st : BitVec 3) (len : Half) (cnt : BitVec 17) (sum : Byte) (buf : List Byte) (stop : BitVec 2) :
    State :=
  { State.resetWith 0x0013A20012345678 with st := st, len := len, cnt := cnt, sum := sum, buf := buf, stop := stop }

/-- Between frames. -/
def idle : State := block 0 0 0 0 [] 0

/-- In `STOPPED` after a timeout. -/
def stopped : State := block 4 0 0 0 [] 1

/-- In `BODY` with a length of one, nothing of the body received. -/
def inBody : State := block 3 1 0 0 [0x7E, 0x00, 0x01] 0

/-- In `BODY` at the checksum byte of an empty frame (D-8). -/
def atEnd : State := block 3 0 0 0 [0x7E, 0x00, 0x00] 0

/-- A block that has not been reset. -/
def unreset : State := { idle with resetDone := false }

/-- The payload of V-IO-1 with another mask and sample, without its type byte. -/
def ioRest (m0 m1 s0 s1 : Byte) : List Byte :=
  [0x00, 0x13, 0xA2, 0x00, 0x40, 0xA1, 0xB2, 0xC3, 0x12, 0x34, 0x01, 0x01, m0, m1, 0x00, s0, s1]

/-- The payload of V-AT-1 with another code and value, without its type byte. -/
def atRest (c0 c1 v0 v1 : Byte) : List Byte :=
  [0x04, 0x00, 0x13, 0xA2, 0x00, 0x40, 0xA1, 0xB2, 0xC3, 0x12, 0x34, c0, c1, 0x00, v0, v1]

/-! ### Decoding: words written out bit by bit (spec/30_encoding.md R64, R68, R71, R72) -/

theorem test_decode_rx_byte : decode (.port (.rx 0b0010100101)) = .ok (.rxByte 0xA5) := by decide
theorem test_decode_rx_timeout : decode (.port (.rx 0b0100000000)) = .ok .rxTimeout := by decide
theorem test_decode_rx_fault : decode (.port (.rx 0b1000000000)) = .ok .rxFault := by decide
theorem test_decode_rx_reserved_kind :
    decode (.port (.rx 0b1100000000)) = .ok (.rxReserved 0b1100000000) := by decide
theorem test_decode_rx_reserved_data :
    decode (.port (.rx 0b1010000000)) = .ok (.rxReserved 0b1010000000) := by decide
theorem test_decode_compute :
    decode (.port (.op 0b0001 ⟨[0x12], [], false⟩)) = .ok (.computeChecksum [0x12]) := by decide
theorem test_decode_verify :
    decode (.port (.op 0b0010 ⟨[0x12], [], false⟩)) = .ok (.verifyChecksum [0x12]) := by decide
theorem test_decode_build :
    decode (.port (.op 0b0011 ⟨[0x05], [0x44, 0x30], true⟩)) =
      .ok (.buildRemoteAt [0x44, 0x30] [0x05] true) := by decide
theorem test_decode_extract_switch :
    decode (.port (.op 0b0100 ⟨[0x92], [], false⟩)) = .ok (.extractSwitch [0x92]) := by decide
theorem test_decode_extract_voltage :
    decode (.port (.op 0b0101 ⟨[0x97], [], false⟩)) = .ok (.extractVoltage [0x97]) := by decide
theorem test_decode_op_reserved_0 :
    decode (.port (.op 0b0000 ⟨[], [], false⟩)) = .ok .opReserved0 := by decide
theorem test_decode_op_reserved_6_7 :
    decode (.port (.op 0b0110 ⟨[], [], false⟩)) = .ok (.opReserved67 0) ∧
      decode (.port (.op 0b0111 ⟨[], [], false⟩)) = .ok (.opReserved67 1) := by decide
theorem test_decode_op_reserved_8_f :
    decode (.port (.op 0b1000 ⟨[], [], false⟩)) = .ok (.opReserved8F 0) ∧
      decode (.port (.op 0b1111 ⟨[], [], false⟩)) = .ok (.opReserved8F 7) := by decide
theorem test_decode_reset : decode (.port (.rst 0b1)) = .ok .reset := by decide
theorem test_decode_rst_zero : decode (.port (.rst 0b0)) = .error .reservedRst := by decide
theorem test_decode_delimiter : decode (.frameByte 0b01111110) = .ok .delimiter := by decide
theorem test_decode_non_delimiter : decode (.frameByte 0b01111101) = .ok (.nonDelimiter 0x7D) := by decide
theorem test_decode_remote_at :
    decode (.frameType [0b00010111, 0x04]) = .ok (.typeRemoteAtCommand [0x04]) := by decide
theorem test_decode_io_sample :
    decode (.frameType [0b10010010, 0x00]) = .ok (.typeIoDataSample [0x00]) := by decide
theorem test_decode_at_response :
    decode (.frameType [0b10010111, 0x04]) = .ok (.typeAtCommandResponse [0x04]) := by decide
theorem test_decode_unrecognized :
    decode (.frameType [0b00010000]) = .ok (.typeUnrecognized [0x10]) ∧
      decode (.frameType []) = .ok (.typeUnrecognized []) := by decide
theorem test_decode_at_cmd_d0 :
    decode (.atCmd 0b0100010000110000 [0x05] true) = .ok (.atCmdD0 [0x05] true) := by decide
theorem test_decode_at_cmd_pct_v :
    decode (.atCmd 0b0010010101010110 [] false) = .ok (.atCmdPctV [] false) := by decide

/-- V-IO-1 as bytes on the wire, with a byte after it. -/
theorem test_decode_frame_v_io_1 :
    decodeFrame ([0x7E, 0x00, 0x12, 0x92] ++ ioRest 0x00 0x08 0x00 0x08 ++ [0x0A, 0xAA]) =
      .ok (.typeIoDataSample (ioRest 0x00 0x08 0x00 0x08), [0xAA]) := by decide

/-- V-BAD-1, and a frame cut short. -/
theorem test_decode_frame_rejects :
    decodeFrame ([0x7E, 0x00, 0x12, 0x92] ++ ioRest 0x00 0x08 0x00 0x08 ++ [0x0B]) = .error .badChecksum ∧
      decodeFrame [0x7E, 0x00, 0x01, 0x55] = .error .truncated ∧
      decodeFrame [0x00] = .error .notDelimiter := by decide

/-- V-OT-2 as the encoder writes it. -/
theorem test_encode_frame_v_ot_2 :
    encodeFrame (.typeUnrecognized [0x10, 0x01, 0x02]) = [0x7E, 0x00, 0x03, 0x10, 0x01, 0x02, 0xEC] := by
  decide

/-! ### The host's numbering of the table's words -/

theorem test_table_words :
    decodeTableWord 10 0x100 = some .rxTimeout ∧ decodeTableWord 10 0x200 = some .rxFault ∧
      decodeTableWord 16 0x07E = some (.rxByte 0x7E) ∧ decodeTableWord 16 0x300 = some (.rxReserved 0x300) ∧
      decodeTableWord 8 0x1 = some (.computeChecksum []) ∧ decodeTableWord 1 0x1 = some .reset ∧
      decodeTableWord 8 0x7E = some .delimiter ∧ decodeTableWord 8 0x92 ≠ none ∧
      decodeTableWord 16 0x4430 = some (.atCmdD0 [] false) := by decide

/-- The next step runs the placed word: a delimiter, a `0x92` frame, and a byte in `LEN_HI`. -/
theorem test_with_fetch_word :
    regs? (step (State.reset.withFetchWord 8 0x7E)) = some ⟨1, 0, 0, 0, [0x7E], 0⟩ ∧
      (evt? (step (State.reset.withFetchWord 8 0x92))).isSome = true ∧
      regs? (step (State.reset.withFetchWord 16 0x012)) = some ⟨2, 0x1200, 0, 0, [0x7E, 0x12], 0⟩ := by
  decide

/-! ### The checks of WellFormed refuse -/

theorem test_wf_rx_reserved : (Instr.rxReserved 0x100).wellFormed = false := by decide
theorem test_wf_compute : (Instr.computeChecksum (List.replicate 65536 0)).wellFormed = false := by
  simp only [Instr.wellFormed, List.length_replicate]; decide
theorem test_wf_non_delimiter : (Instr.nonDelimiter 0x7E).wellFormed = false := by decide
theorem test_wf_remote_at : (Instr.typeRemoteAtCommand (List.replicate 65535 0)).wellFormed = false := by
  simp only [Instr.wellFormed, List.length_replicate]; decide
theorem test_wf_io_sample : (Instr.typeIoDataSample (List.replicate 65535 0)).wellFormed = false := by
  simp only [Instr.wellFormed, List.length_replicate]; decide
theorem test_wf_at_response : (Instr.typeAtCommandResponse (List.replicate 65535 0)).wellFormed = false := by
  simp only [Instr.wellFormed, List.length_replicate]; decide
theorem test_wf_unrecognized_long : (Instr.typeUnrecognized (List.replicate 65536 0)).wellFormed = false := by
  simp only [Instr.wellFormed, List.length_replicate]; decide
theorem test_wf_unrecognized_type :
    (Instr.typeUnrecognized [0x17]).wellFormed = false ∧ (Instr.typeUnrecognized [0x92]).wellFormed = false ∧
      (Instr.typeUnrecognized [0x97]).wellFormed = false := by decide

/-! ### Named encodings (R22, R28, R77, R210) -/

theorem test_codes :
    (stCode .stopped = 4 ∧ parserState? 4 = some .stopped ∧ parserState? 5 = none) ∧
      (kindCode .other = 0 ∧ kindCode .ioSample = 1 ∧ kindCode .atResponse = 2 ∧ kindCode .short = 3) ∧
      eventCode none = 0 ∧ eventCode (some (.malformedFrame 0)) = 2 ∧ eventCode (some (.badChecksum [])) = 3 ∧
      eventCode (some .readTimeout) = 4 ∧ eventCode (some .transportFault) = 5 := by decide

/-- R196, R218; log entry 22. -/
theorem test_log_levels :
    logLevel? (.badChecksum []) = some .warning ∧ logLevel? .readTimeout = some .error ∧
      logLevel? (.frameOk (ioRecord [0x92])) = none ∧ logLevel? (.frameOk (otherRecord [])) = none := by decide

/-! ### Single steps: spec/95_test_vectors.md section 2.2 -/

/-- D-1. -/
theorem test_delimiter : regs? (exec .delimiter idle) = some ⟨1, 0, 0, 0, [0x7E], 0⟩ := by decide
/-- D-2. -/
theorem test_non_delimiter : evt? (exec (.nonDelimiter 0x00) idle) = some (.malformedFrame 0x00) := by decide
/-- D-4: `0x7E` is data. -/
theorem test_len_hi :
    regs? (exec (.rxByte 0x7E) (block 1 0 0 0 [0x7E] 0)) = some ⟨2, 0x7E00, 0, 0, [0x7E, 0x7E], 0⟩ := by decide
/-- D-5. -/
theorem test_len_lo :
    regs? (exec (.rxByte 0x12) (block 2 0 0 0 [0x7E, 0x00] 0)) =
      some ⟨3, 0x0012, 0, 0, [0x7E, 0x00, 0x12], 0⟩ := by decide
/-- D-7: the sum wraps. -/
theorem test_body :
    regs? (step { block 3 0x12 1 0x92 [0x7E, 0x00, 0x12, 0x92] 0 with inputs := [.rx 0x07E] }) =
      some ⟨3, 0x0012, 2, 0x10, [0x7E, 0x00, 0x12, 0x92, 0x7E], 0⟩ := by decide
/-- D-8. -/
theorem test_body_end_ok :
    evt? (exec (.rxByte 0xFF) atEnd) = some (.frameOk ⟨.other, none, [], 0, 0, false, 0⟩) := by decide
/-- D-9. -/
theorem test_body_end_bad :
    evt? (exec (.rxByte 0xFE) atEnd) = some (.badChecksum [0x7E, 0x00, 0x00, 0xFE]) := by decide
/-- D-10. -/
theorem test_timeout :
    regs? (exec .rxTimeout (block 3 0x12 3 0x92 [0x7E, 0x00, 0x12, 0x92, 0x00, 0x00] 0)) =
      some ⟨4, 0, 0, 0, [], 1⟩ := by decide
/-- D-12. -/
theorem test_fault :
    regs? (exec .rxFault (block 2 0 0 0 [0x7E, 0x00] 0)) = some ⟨4, 0, 0, 0, [], 2⟩ := by decide
/-- D-13. -/
theorem test_stopped :
    regs? (step { stopped with inputs := [.rx 0x07E] }) = some ⟨4, 0, 0, 0, [], 1⟩ ∧
      evt? (step { stopped with inputs := [.rx 0x07E] }) = none := by decide
/-- R72, R225. -/
theorem test_rx_reserved :
    res? (step { idle with inputs := [.rx 0x3FF] }) = some (.refusal .reservedRxSymbol) ∧
      res? (step { idle with inputs := [.op 0x9 ⟨[], [], false⟩] }) = some (.refusal .reservedOp) := by decide
/-- R241. -/
theorem test_unreset : fault? (exec (.computeChecksum []) unreset) = some .notReset := by decide
/-- R22. -/
theorem test_bad_state : fault? (exec (.rxByte 0) (block 5 0 0 0 [] 0)) = some .badParserState := by decide
/-- R240, its example. -/
theorem test_reset :
    regs? (exec .reset (block 3 0x12 7 0x10 [0x7E] 2)) = some ⟨0, 0, 0, 0, [], 0⟩ ∧
      regs? (exec .reset unreset) = some ⟨0, 0, 0, 0, [], 0⟩ := by decide

/-! ### Classification: section 2.3 -/

/-- V-IO-1 and V-IO-4. -/
theorem test_io_sample :
    (classify (0x92 :: ioRest 0x00 0x08 0x00 0x08)).sw = 0x08 ∧
      (classify (0x92 :: ioRest 0xFF 0xFF 0xFF 0xF7)).sw = 0x00 := by decide
/-- V-IO-1 as an instruction; V-SH-1, one byte shorter. -/
theorem test_type_io_sample :
    evt? (exec (.typeIoDataSample (ioRest 0x00 0x08 0x00 0x08)) idle) =
        some (.frameOk ⟨.ioSample, some 0x92, 0x92 :: ioRest 0x00 0x08 0x00 0x08, 0x08, 0, false, 0⟩) ∧
      (classify (0x92 :: (ioRest 0x00 0x08 0x00 0x08).take 16)).kind = .short := by decide
/-- V-AT-1. -/
theorem test_type_at_response :
    evt? (exec (.typeAtCommandResponse (atRest 0x25 0x56 0x09 0xFC)) idle) =
      some (.frameOk
        ⟨.atResponse, some 0x97, 0x97 :: atRest 0x25 0x56 0x09 0xFC, 0, 0x2556, true, 2995⟩) := by decide
/-- V-AT-3, V-SH-2 and V-SH-3. -/
theorem test_at_kinds :
    (classify (0x97 :: (atRest 0x44 0x30 0x00 0x00).take 14)).cmd = 0x4430 ∧
      (classify (0x97 :: (atRest 0x25 0x56 0x09 0xFC).take 12)).kind = .short ∧
      (classify (0x97 :: (atRest 0x25 0x56 0x09 0xFC).take 15)).kind = .short := by decide
/-- V-OT-3, V-OT-2. -/
theorem test_type_other :
    evt? (exec (.typeRemoteAtCommand [0x04]) idle) =
        some (.frameOk ⟨.other, some 0x17, [0x17, 0x04], 0, 0, false, 0⟩) ∧
      evt? (exec (.typeUnrecognized [0x10, 0x01, 0x02]) idle) =
        some (.frameOk ⟨.other, some 0x10, [0x10, 0x01, 0x02], 0, 0, false, 0⟩) := by decide

/-! ### Requests: sections 2.1 and 2.4 to 2.6 -/

/-- C-1, C-4, C-6 and C-7. -/
theorem test_compute :
    res? (exec (.computeChecksum [0x12, 0x34, 0x56]) idle) = some (.byte 0x63) ∧
      checksumOf [] = 0xFF ∧ checksumOf [0x80, 0x80] = 0xFF ∧
      checksumOf (0x92 :: ioRest 0x00 0x08 0x00 0x08) = 0x0A := by decide
/-- K-2, K-3, K-4 and K-8. -/
theorem test_verify :
    res? (exec (.verifyChecksum [0x7E, 0x00, 0x02, 0x34, 0x12, 0xB9]) idle) = some (.bit true) ∧
      checksumHolds [0x7E, 0x00, 0x01] = false ∧ checksumHolds [0x7E, 0x00, 0x00, 0xFF] = true ∧
      checksumHolds [0x7E, 0x00, 0x00, 0xFE] = false := by decide
/-- V-ENC-7. -/
theorem test_build :
    res? (exec (.buildRemoteAt [0x41, 0x42] [0x7E, 0x00, 0xFF] false) idle) =
      some (.bytes [0x7E, 0x00, 0x12, 0x17, 0x04, 0x00, 0x13, 0xA2, 0x00, 0x12, 0x34, 0x56, 0x78, 0xFF, 0xFE,
        0x02, 0x41, 0x42, 0x7E, 0x00, 0xFF, 0x1C]) := by decide
/-- V-ENC-8. -/
theorem test_build_bad_code :
    res? (exec (.buildRemoteAt [0x44] [] false) idle) = some (.refusal .badCommandCode) := by decide
/-- V-ENC-1. -/
theorem test_at_cmd_d0 :
    (next? (exec (.atCmdD0 [0x05] true) idle)).bind State.tx =
      some [0x7E, 0x00, 0x10, 0x17, 0x04, 0x00, 0x13, 0xA2, 0x00, 0x12, 0x34, 0x56, 0x78, 0xFF, 0xFE, 0x03,
        0x44, 0x30, 0x05, 0xA2] := by decide
/-- V-ENC-3. -/
theorem test_at_cmd_pct_v :
    (next? (step { idle with inputs := [.op 0x3 ⟨[], [0x25, 0x56], false⟩] })).bind State.tx =
      some [0x7E, 0x00, 0x0F, 0x17, 0x04, 0x00, 0x13, 0xA2, 0x00, 0x12, 0x34, 0x56, 0x78, 0xFF, 0xFE, 0x02,
        0x25, 0x56, 0xA1] := by decide
/-- V-SW-6, V-SW-8 and V-SW-10 (the byte order). -/
theorem test_extract_switch :
    res? (exec (.extractSwitch (0x92 :: ioRest 0x00 0x1C 0x00 0x0C)) idle) = some (.byte 0x08) ∧
      res? (exec (.extractSwitch (0x92 :: ioRest 0xFF 0xF7 0xFF 0xFF)) idle) = some (.byte 0x00) ∧
      res? (exec (.extractSwitch (0x92 :: ioRest 0x08 0x00 0x08 0x00)) idle) = some (.byte 0x00) := by decide
/-- V-SW-12 and V-SW-13. -/
theorem test_extract_switch_refuses :
    res? (exec (.extractSwitch (ioRest 0 0 0 0)) idle) = some (.refusal .shortPayload) ∧
      res? (exec (.extractSwitch (0x97 :: ioRest 0 0 0 0)) idle) = some (.refusal .wrongFrameType) := by decide
/-- V-V-8, V-V-5 and V-V-12. -/
theorem test_extract_voltage :
    res? (exec (.extractVoltage (0x97 :: atRest 0x25 0x56 0x09 0xFC)) idle) = some (.millivolts 2995) ∧
      millivoltsOf 0x0356 = 1000 ∧ millivoltsOf 0xFFFF = 76798 := by decide
/-- V-V-13, V-V-14 and V-V-15. -/
theorem test_extract_voltage_refuses :
    res? (exec (.extractVoltage (atRest 0x25 0x56 0 0)) idle) = some (.refusal .shortPayload) ∧
      res? (exec (.extractVoltage (0x97 :: atRest 0x44 0x30 0 0)) idle) = some (.refusal .notVoltageResponse) ∧
      res? (exec (.extractVoltage (0x92 :: atRest 0x25 0x56 0 0)) idle) = some (.refusal .wrongFrameType) := by
  decide

/-! ### The host model -/

/-- R47: a short read of two bytes that yields one, and one that yields none. -/
theorem test_read_exactly :
    readExactlySymbols 2 [0x12] = [0x012, 0x100] ∧ readExactlySymbols 1 [] = [0x100] ∧
      readExactlySymbols 2 [0x12, 0x34, 0x56] = [0x012, 0x034] := by decide

/-- The loop state and what has been written after some iterations. -/
def loopView? (o : SystemResult) : Option (LoopState × List LoopAction) :=
  match o with
  | .next y => some (y.loop, y.actions)
  | .fault _ => none
  | .refused _ => none

/-- L1-8: a timeout ends the loop with no writes. -/
theorem test_loop_timeout :
    loopView? (systemStep (System.start 0 7 [0x100])) = some (⟨0, .stopped .timeout⟩, []) := by decide

/-! ### Witnesses: the hypotheses of the statements are met -/

theorem witness_DelimiterStartsFrame : idle.resetDone = true ∧ idle.st = 0 := by decide
theorem witness_OtherByteIsMalformedFrame :
    idle.resetDone = true ∧ idle.st = 0 ∧ (0x7D : Byte) ≠ 0x7E ∧ (0xFF : Byte) ≠ 0x7E := by decide
theorem witness_LengthHighByteIsTaken :
    let s := block 1 0 0 0 [0x7E] 0; s.resetDone = true ∧ s.st = 1 := by decide
theorem witness_LengthLowByteIsTaken :
    let s := block 2 0 0 0 [0x7E, 0x00] 0; s.resetDone = true ∧ s.st = 2 := by decide
/-- The last byte that is not the checksum. -/
theorem witness_BodyByteIsAppended :
    inBody.resetDone = true ∧ inBody.st = 3 ∧ inBody.cnt.toNat + 1 < inBody.len.toNat + 1 := by decide
/-- The checksum byte, the first byte past the last one of the witness before; a verdict of each kind. -/
theorem witness_LastBodyByteEndsFrame :
    (atEnd.resetDone = true ∧ atEnd.st = 3 ∧ ¬ atEnd.cnt.toNat + 1 < atEnd.len.toNat + 1) ∧
      (atEnd.sum.toNat + (0xFF : Byte).toNat) % 256 = 0xFF ∧
      (atEnd.sum.toNat + (0xFE : Byte).toNat) % 256 ≠ 0xFF := by decide
theorem witness_TimeoutStopsReceive :
    idle.resetDone = true ∧ idle.st.toNat < 4 ∧ inBody.resetDone = true ∧ inBody.st.toNat < 4 := by decide
theorem witness_TransportFaultStopsReceive :
    idle.resetDone = true ∧ idle.st.toNat < 4 ∧ inBody.resetDone = true ∧ inBody.st.toNat < 4 := by decide
theorem witness_StoppedIgnoresRx :
    stopped.resetDone = true ∧ stopped.st = 4 ∧ reservedRx 0x100 = false ∧ reservedRx 0x200 = false ∧
      reservedRx 0x0FF = false := by decide
/-- Both ends of the illegal encodings, and `STOPPED` just below them. -/
theorem witness_IllegalStatesFaultAndFrameRowsStop :
    (let s := block 5 0 0 0 [] 0; s.resetDone = true ∧ 4 < s.st.toNat) ∧
      (let s := block 7 0 0 0 [] 0; s.resetDone = true ∧ 4 < s.st.toNat) ∧ reservedRx 0x100 = false ∧
      stopped.resetDone = true ∧ stopped.st = 4 := by decide
/-- Both ends of the reserved codes, and the least nonzero data. -/
theorem witness_ReservedEncodingsAreRefused :
    idle.resetDone = true ∧ ((0x0 : BitVec 4) = 0 ∨ 6 ≤ (0x0 : BitVec 4).toNat) ∧
      ((0x6 : BitVec 4) = 0 ∨ 6 ≤ (0x6 : BitVec 4).toNat) ∧
      ((0xF : BitVec 4) = 0 ∨ 6 ≤ (0xF : BitVec 4).toNat) ∧ (0x01 : Byte) ≠ 0 := by decide
/-- `LEN_HI` and `BODY`, the ends of the range; in `BODY` both cases of the body counter. -/
theorem witness_DelimiterIsDataInsideFrame :
    (let s := block 1 0 0 0 [0x7E] 0; s.resetDone = true ∧ 1 ≤ s.st.toNat ∧ s.st.toNat ≤ 3) ∧
      (inBody.resetDone = true ∧ 1 ≤ inBody.st.toNat ∧ inBody.st.toNat ≤ 3 ∧
        inBody.cnt.toNat < inBody.len.toNat) ∧
      (atEnd.resetDone = true ∧ 1 ≤ atEnd.st.toNat ∧ atEnd.st.toNat ≤ 3 ∧
        ¬ atEnd.cnt.toNat < atEnd.len.toNat) := by decide
theorem witness_RunningSumVerdictIsVerify :
    let s := block 3 2 2 0x46 [0x7E, 0x00, 0x02, 0x12, 0x34] 0
    s.resetDone = true ∧ s.registersAgree ∧ s.st = 3 := by decide
/-- Payloads of 17 and 18 bytes. -/
theorem witness_IoSampleFrameIsReported :
    inBody.resetDone = true ∧ inBody.st.toNat < 4 ∧ (0x92 :: ioRest 0 8 0 8).length = 18 ∧
      (0x92 :: (ioRest 0 8 0 8).take 16).length = 17 := by decide
/-- Payloads of 13, 14, 16 and 17 bytes. -/
theorem witness_AtResponseFrameIsReported :
    inBody.resetDone = true ∧ inBody.st.toNat < 4 ∧ (0x97 :: (atRest 0x25 0x56 0 0).take 12).length = 13 ∧
      (0x97 :: (atRest 0x25 0x56 0 0).take 13).length = 14 ∧
      (0x97 :: (atRest 0x25 0x56 0 0).take 15).length = 16 ∧
      (0x97 :: atRest 0x25 0x56 0 0).length = 17 := by decide
theorem witness_OtherFrameIsReported :
    inBody.resetDone = true ∧ inBody.st.toNat < 4 ∧
      (∀ p ∈ [([] : List Byte), [0x17], [0x93]], p.head? ≠ some 0x92 ∧ p.head? ≠ some 0x97) := by decide
/-- Each clause at its ends: 18; 1 and 17; 14 of another code; 17; 1 and 13; 14 and 16 of `%V`. -/
theorem witness_KindFollowsLengthAndType :
    (let p : List Byte := 0x92 :: ioRest 0 8 0 8; p.head? = some 0x92 ∧ 18 ≤ p.length) ∧
      (∀ p ∈ [([0x92] : List Byte), 0x92 :: (ioRest 0 8 0 8).take 16],
        p.head? = some 0x92 ∧ 1 ≤ p.length ∧ p.length < 18) ∧
      (let p : List Byte := 0x97 :: (atRest 0x44 0x30 0 0).take 13
       p.head? = some 0x97 ∧ 14 ≤ p.length ∧ (p.getD 12 0 ++ p.getD 13 0 : Half) ≠ 0x2556) ∧
      (let p : List Byte := 0x97 :: atRest 0x25 0x56 0 0
       p.head? = some 0x97 ∧ 17 ≤ p.length ∧ (p.getD 12 0 ++ p.getD 13 0 : Half) = 0x2556) ∧
      (∀ p ∈ [([0x97] : List Byte), 0x97 :: (atRest 0x25 0x56 0 0).take 12],
        p.head? = some 0x97 ∧ 1 ≤ p.length ∧ p.length < 14) ∧
      (∀ p ∈ [(0x97 :: (atRest 0x25 0x56 0 0).take 13 : List Byte), 0x97 :: (atRest 0x25 0x56 0 0).take 15],
        p.head? = some 0x97 ∧ 14 ≤ p.length ∧ p.length < 17 ∧
          (p.getD 12 0 ++ p.getD 13 0 : Half) = 0x2556) := by decide
theorem witness_ParserNeverCallsRefusingExtractor :
    (classify (0x92 :: ioRest 0 8 0 8)).kind = .ioSample ∧
      (classify (0x97 :: atRest 0x25 0x56 0 0)).vvalid = true := by decide
/-- Payloads that differ only in bytes the block does not read. -/
theorem witness_IgnoredPayloadBytesDoNotMatter :
    (let p : List Byte := 0x92 :: ioRest 0 8 0 8
     let q := p.set 1 0xFF
     p ≠ q ∧ p.length = q.length ∧ p.head? = some 0x92 ∧ ∀ i ∈ [0, 13, 14, 16, 17], p[i]? = q[i]?) ∧
      (let p : List Byte := 0x97 :: atRest 0x25 0x56 9 0xFC
       let q := p.set 14 0xFF
       p ≠ q ∧ p.length = q.length ∧ p.head? = some 0x97 ∧ ∀ i ∈ [0, 12, 13, 15, 16], p[i]? = q[i]?) := by
  decide
theorem witness_ComputeChecksumAnswers : idle.resetDone = true := by decide
theorem witness_VerifyChecksumAnswers : inBody.resetDone = true := by decide
/-- K-8's swapped payload, and V-OT-2 with another byte at the least and at the last offset. -/
theorem witness_VerifyIsOrderBlindAndCatchesOneByte :
    ([0x7E, 0x00, 0x02] : List Byte).length = 3 ∧ ([0x34, 0x12, 0xB9] : List Byte).Perm [0x12, 0x34, 0xB9] ∧
      (let f : List Byte := [0x7E, 0x00, 0x03, 0x10, 0x01, 0x02, 0xEC]
       checksumHolds f = true ∧ (3 ≤ 3 ∧ 3 < f.length ∧ f[3]? ≠ some 0x11) ∧
         3 ≤ 6 ∧ 6 < f.length ∧ f[6]? ≠ some 0xED) := by
  refine ⟨by decide, List.Perm.swap _ _ _, by decide⟩
/-- The longest payload. -/
theorem witness_ChecksumCodecLaw :
    idle.resetDone = true ∧ (List.replicate 65535 (0 : Byte)).length ≤ 65535 := by
  rw [List.length_replicate]; decide
theorem witness_WrappingAccumulatorAgrees : (List.replicate 65536 (0xFF : Byte)).length ≤ 65536 := by
  rw [List.length_replicate]
/-- The longest parameter list. -/
theorem witness_BuildRemoteAtAnswersFrame :
    inBody.resetDone = true ∧ (List.replicate 65520 (0 : Byte)).length ≤ 65520 := by
  rw [List.length_replicate]; decide
/-- Codes of one, two and three bytes, and the two lengths where the clauses meet. -/
theorem witness_BuildOperandsAreChecked :
    idle.resetDone = true ∧ ([0x44] : List Byte).length ≠ 2 ∧ ([0x44, 0x30, 0x00] : List Byte).length ≠ 2 ∧
      ([0x44, 0x30] : List Byte).length = 2 ∧ 65520 < (List.replicate 65521 (0 : Byte)).length ∧
      (List.replicate 65520 (0 : Byte)).length ≤ 65520 := by
  rw [List.length_replicate, List.length_replicate]; decide
theorem witness_BuiltChecksumClosedForm : idle.resetDone = true ∧ ([0x05] : List Byte).length ≤ 65520 := by
  decide
theorem witness_BuiltFramesAreAccepted :
    inBody.resetDone = true ∧ (List.replicate 65520 (0 : Byte)).length ≤ 65520 ∧ idle.sound ∧ idle.st = 0 := by
  rw [List.length_replicate]; decide
/-- The shortest payload the extractor takes, and one a byte longer. -/
theorem witness_ExtractSwitchAnswers :
    inBody.resetDone = true ∧
      ∀ p ∈ [(0x92 :: ioRest 0 8 0 8 : List Byte), 0x92 :: ioRest 0 8 0 8 ++ [0]],
        18 ≤ p.length ∧ p.head? = some 0x92 := by decide
theorem witness_ExtractVoltageAnswers :
    inBody.resetDone = true ∧
      (let p : List Byte := 0x97 :: atRest 0x25 0x56 0xFF 0xFF
       17 ≤ p.length ∧ p.head? = some 0x97 ∧ p.getD 12 0 = 0x25 ∧ p.getD 13 0 = 0x56) := by decide
/-- 17 and 18 bytes for the switch; 16 and 17 for the voltage; each guard with the ones before it passed. -/
theorem witness_ExtractorGuardsRefuse :
    idle.resetDone = true ∧ (0x92 :: (ioRest 0 8 0 8).take 16).length < 18 ∧
      (let p : List Byte := 0x97 :: ioRest 0 8 0 8; 18 ≤ p.length ∧ p.head? ≠ some 0x92) ∧
      (0x97 :: (atRest 0x25 0x56 0 0).take 15).length < 17 ∧
      (let p : List Byte := 0x92 :: atRest 0x25 0x56 0 0; 17 ≤ p.length ∧ p.head? ≠ some 0x97) ∧
      (let p : List Byte := 0x97 :: atRest 0x25 0x57 0 0
       17 ≤ p.length ∧ p.head? = some 0x97 ∧ ¬ (p.getD 12 0 = 0x25 ∧ p.getD 13 0 = 0x56)) := by decide
theorem witness_UnresetStepsFault :
    unreset.resetDone = false ∧ Instr.opReserved0 ≠ .reset ∧ (Transaction.rst 0) ≠ .rst 1 := by decide
/-- A transaction that is an instruction, and the one that is none. -/
theorem witness_StepRunsDecodedInstruction :
    (let s : State := { idle with inputs := [.rx 0x07E] }
     s.inputs = .rx 0x07E :: [] ∧ decode (viewTransaction s (.rx 0x07E)) = .ok .delimiter) ∧
      (let s : State := { idle with inputs := [.rst 0] }
       s.inputs = .rst 0 :: [] ∧ decode (viewTransaction s (.rst 0)) = .error .reservedRst ∧
         s.resetDone = true) := by decide
/-- A byte that ends a frame: `RX_BYTE` on its port, `TYPE_UNRECOGNIZED` at the level of the frames. -/
theorem witness_FrameLevelViewKeepsMeaning :
    decode (.port (.rx 0x0FF)) = .ok (.rxByte 0xFF) ∧
      decode (viewTransaction atEnd (.rx 0x0FF)) = .ok (.typeUnrecognized []) := by decide
theorem witness_IdleBlockWaits : inBody.inputs = [] := by decide
theorem witness_DecodeInvertsEncode :
    (Instr.rxReserved 0x101).wellFormed = true ∧ (Instr.nonDelimiter 0x7D).wellFormed = true ∧
      (Instr.typeUnrecognized []).wellFormed = true := by decide
theorem witness_FrameDecodeInvertsEncode :
    let i := Instr.typeIoDataSample (ioRest 0 8 0 8)
    i.wellFormed = true ∧ (rowOf i).format = .frameType := by decide
theorem witness_TableRowsDoNotOverlap :
    let i := Instr.opReserved67 0
    let j := Instr.opReserved67 1
    i ≠ j ∧ (rowOf i).format = (rowOf j).format ∧ (rowOf i).priority = (rowOf j).priority ∧
      6 < 2 ^ (rowOf i).width ∧ rowMatches (rowOf i) 6 = true ∧ rowMatches (rowOf j) 6 = true := by decide
theorem witness_MachineRunsDecodedFrame :
    idle.sound ∧ idle.st = 0 ∧
      decodeFrame [0x7E, 0x00, 0x01, 0x55, 0xAA, 0x99] = .ok (.typeUnrecognized [0x55], [0x99]) := by decide
theorem witness_StepKeepsSound :
    let s : State := { inBody with inputs := [.rx 0x055] }; s.sound ∧ answersNext (step s) :=
  ⟨by decide, _, rfl⟩
theorem witness_SoundStepsComplete : inBody.sound ∧ atEnd.sound ∧ stopped.sound :=
  ⟨by decide, by decide, by decide⟩
theorem witness_StrapNeverChanges : answersNext (step { inBody with inputs := [.rst 1] }) := ⟨_, rfl⟩
theorem witness_BufferNeverOverflows : inBody.sound := by decide
theorem witness_MalformedOnlyAtFrameStart :
    ∃ t, step { idle with inputs := [.rx 0x07D] } = .next t ∧ t.evt = some (.malformedFrame 0x7D) :=
  ⟨_, rfl, by decide⟩
theorem witness_BadChecksumOnlyAtFrameEnd :
    let s : State := { atEnd with inputs := [.rx 0x0FE] }
    s.sound ∧ ∃ t, step s = .next t ∧ t.evt = some (.badChecksum [0x7E, 0x00, 0x00, 0xFE]) :=
  ⟨by decide, _, rfl, by decide⟩
/-- A step for each clause. -/
theorem witness_TerminalEventsStopUntilReset :
    (∃ t, step { inBody with inputs := [.rx 0x100] } = .next t ∧ t.evt = some .readTimeout) ∧
      (∃ t, step { idle with inputs := [.rx 0x200] } = .next t ∧ t.evt = some .transportFault) ∧
      (let s : State := { stopped with inputs := [.rst 0] }
       answersNext (step s) ∧ s.st = 4 ∧ s.inputs.head? ≠ some (.rst 1)) :=
  ⟨⟨_, rfl, by decide⟩, ⟨_, rfl, by decide⟩, ⟨_, rfl⟩, by decide, by decide⟩
theorem witness_RefusalOnlyAnswers :
    ∃ t, step { inBody with inputs := [.op 0x4 ⟨[], [], false⟩] } = .next t ∧
      t.res = some (.refusal .shortPayload) := ⟨_, rfl, by decide⟩
/-- Two parser states, the one between frames and the other in a frame. -/
theorem witness_RequestsAndParserAreIndependent :
    idle.resetDone = true ∧ inBody.resetDone = true ∧ inBody.destAddr64 = idle.destAddr64 := by decide
/-- The least frames: `L = 0` and `L = 1`. -/
theorem witness_FrameConsumesExactlyItsLength :
    idle.sound ∧ idle.st = 0 ∧ ([0xFF] : List Byte).length = (0 : Byte).toNat * 256 + (0 : Byte).toNat + 1 ∧
      ([0x7E, 0x81] : List Byte).length = (0 : Byte).toNat * 256 + (1 : Byte).toNat + 1 := by decide
theorem witness_NoiseIsSkippedByteByByte :
    idle.resetDone = true ∧ idle.st = 0 ∧ (∀ x ∈ ([0x00, 0x7D] : List Byte), x ≠ 0x7E) ∧ (0x55 : Byte) ≠ 0x7E := by
  decide

/-- The loop running, the block at the checksum byte of the frame that carries `p`. -/
def loopAt (p : List Byte) (stream : List (BitVec 10)) : System :=
  { System.start 0x0013A20012345678 7 stream with
    block := block 3 (BitVec.ofNat 16 p.length) (BitVec.ofNat 17 p.length) (BitVec.ofNat 8 (sumBytes p))
      ([0x7E, 0x00, BitVec.ofNat 8 p.length] ++ p) 0 }

theorem witness_TipIsCountedAndLatchReset :
    let y := loopAt (0x92 :: ioRest 0 8 0 8) [0x00A]
    y.loop.mode = .running ∧ y.stream = 0x00A :: [] ∧
      ∃ b r, feedBlock (.rx 0x00A) y.block = .next b ∧ b.evt = some (.frameOk r) ∧ r.kind = .ioSample ∧
        r.sw = 0x08 := ⟨rfl, rfl, _, _, rfl, rfl, by decide, by decide⟩
theorem witness_NoTipRequestsVoltage :
    let y := loopAt (0x92 :: ioRest 0 8 0 0) [0x012]
    y.loop.mode = .running ∧ y.stream = 0x012 :: [] ∧
      ∃ b r, feedBlock (.rx 0x012) y.block = .next b ∧ b.evt = some (.frameOk r) ∧ r.kind = .ioSample ∧
        r.sw = 0x00 := ⟨rfl, rfl, _, _, rfl, rfl, by decide, by decide⟩
/-- A voltage response, and a timeout. -/
theorem witness_OtherEventsWriteNothing :
    (let y := loopAt (0x97 :: atRest 0x25 0x56 0x09 0xFC) [0x093]
     y.loop.mode = .running ∧ y.stream = 0x093 :: [] ∧
       ∃ b r, feedBlock (.rx 0x093) y.block = .next b ∧ b.evt = some (.frameOk r) ∧ r.kind ≠ .ioSample ∧
         r.vvalid = true) ∧
      (let y := System.start 0 7 [0x100]
       y.loop.mode = .running ∧ y.stream = 0x100 :: [] ∧
         ∃ b, feedBlock (.rx 0x100) y.block = .next b ∧ b.evt = some .readTimeout) :=
  ⟨⟨rfl, rfl, _, _, rfl, rfl, by decide, by decide⟩, rfl, rfl, _, rfl, rfl⟩
/-- The shortest sample frame: V-IO-1. -/
theorem witness_SampleFrameWithTipEndToEnd :
    let p : List Byte := 0x92 :: ioRest 0 8 0 8
    let y := System.start 0 7 ((wireFrame p).map rxByteSym)
    y.loop.mode = .running ∧ y.block.sound ∧ y.block.st = 0 ∧ 18 ≤ p.length ∧ p.length ≤ 65535 ∧
      (p.getD 14 0).getLsbD 3 = true ∧ (p.getD 17 0).getLsbD 3 = true ∧
      y.stream = (wireFrame p).map rxByteSym ++ [] := by decide

end Sys2Proof.Tests
end

section
/-!
SUPPORT. What a step does with a transaction that is an instruction, and with one that is none (R10, R72).
-/

namespace Sys2Proof.Proofs

open Sys2Proof.Machine Sys2Proof.Statements

/-- The queue is what a step itself changes (R50; log entry 1). -/
theorem popInput_of_cons (s : State) (t : Transaction) (rest : List Transaction)
    (h : s.inputs = t :: rest) : s.popInput = { s with inputs := rest } := by
  rw [State.popInput, h, List.tail_cons]

/-- `afterRefusal`, the statements' record of a refusal, is the model's own (R225). -/
theorem quiet_refuse_eq_afterRefusal (s : State) (r : RefuseReason) :
    s.quiet.refuse r = afterRefusal s r := rfl

theorem refuseRequest_of_resetDone (s : State) (r : RefuseReason) (h : s.resetDone = true) :
    refuseRequest r s = .next (afterRefusal s r) :=
  (refuseRequest_next r s _).2 ⟨h, (quiet_refuse_eq_afterRefusal s r).symm⟩

theorem runWord_of_ok (w : Word) (i : Instr) (s : State) (h : decode w = .ok i) :
    runWord w s = exec i s := by simp only [runWord, h]

theorem runWord_of_error (w : Word) (r : RefuseReason) (s : State) (h : decode w = .error r) :
    runWord w s = refuseRequest r s := by simp only [runWord, h]

theorem step_of_decode_ok (s : State) (t : Transaction) (rest : List Transaction) (i : Instr)
    (hin : s.inputs = t :: rest) (hdec : decode (viewTransaction s t) = .ok i) :
    step s = exec i { s with inputs := rest } := by
  rw [step_of_cons s t rest hin, runWord_of_ok _ i _ hdec, popInput_of_cons s t rest hin]

theorem step_of_decode_error (s : State) (t : Transaction) (rest : List Transaction) (r : RefuseReason)
    (hin : s.inputs = t :: rest) (hdec : decode (viewTransaction s t) = .error r)
    (hreset : s.resetDone = true) :
    step s = .next { afterRefusal s r with inputs := rest } := by
  rw [step_of_cons s t rest hin, runWord_of_error _ r _ hdec, popInput_of_cons s t rest hin]
  exact refuseRequest_of_resetDone { s with inputs := rest } r hreset

/-- Settles O36: a word runs as what it decodes to, and the refusal of one that is no instruction does not
look at the queue. -/
theorem stepRunsDecodedInstruction : Obligations.StepRunsDecodedInstruction :=
  fun s t rest hin =>
    ⟨fun i hdec => step_of_decode_ok s t rest i hin hdec,
      fun r hdec hreset => step_of_decode_error s t rest r hin hdec hreset⟩

end Sys2Proof.Proofs
end

section
/-!
SUPPORT. What a sound state is in each of the five parser states (R22, R28, R31), and that each transition of
the parser, taken where it may be taken, leaves a sound state.
-/

namespace Sys2Proof.Proofs

open Sys2Proof.Machine

variable {s : State}

/-! ### What soundness says, parser state by parser state -/

theorem sound_iff_of_awaitDelim (hst : s.st = 0) :
    s.sound ↔ s.resetDone = true ∧ s.stop = 0 ∧ s.buf = [] ∧ s.len = 0 ∧ s.cnt = 0 ∧ s.sum = 0 := by
  constructor
  · rintro ⟨hreset, -, ⟨hregs, -⟩, -, hstop, -⟩
    exact ⟨hreset, hstop (by simp [hst]), hregs hst⟩
  · rintro ⟨hreset, hstop, hbuf, hlen, hcnt, hsum⟩
    simp [State.sound, State.registersAgree, hst, hreset, hstop, hbuf, hlen, hcnt, hsum]

theorem sound_iff_of_lenHi (hst : s.st = 1) :
    s.sound ↔ s.resetDone = true ∧ s.stop = 0 ∧ s.buf = [0x7E] ∧ s.cnt = 0 ∧ s.sum = 0 := by
  constructor
  · rintro ⟨hreset, -, ⟨-, hbuf, -⟩, -, hstop, hcount⟩
    exact ⟨hreset, hstop (by simp [hst]), hbuf hst, hcount (by simp [hst])⟩
  · rintro ⟨hreset, hstop, hbuf, hcnt, hsum⟩
    simp [State.sound, State.registersAgree, hst, hreset, hstop, hbuf, hcnt, hsum]

theorem sound_iff_of_lenLo (hst : s.st = 2) :
    s.sound ↔ s.resetDone = true ∧ s.stop = 0 ∧ s.buf = [0x7E, hiByte s.len] ∧ s.cnt = 0 ∧ s.sum = 0 := by
  constructor
  · rintro ⟨hreset, -, ⟨-, -, hbuf, -⟩, -, hstop, hcount⟩
    exact ⟨hreset, hstop (by simp [hst]), hbuf hst, hcount (by simp [hst])⟩
  · rintro ⟨hreset, hstop, hbuf, hcnt, hsum⟩
    simp [State.sound, State.registersAgree, hst, hreset, hstop, hbuf, hcnt, hsum, hiByte]

theorem sound_iff_of_body (hst : s.st = 3) :
    s.sound ↔ s.resetDone = true ∧ s.stop = 0 ∧ s.buf.length = 3 + s.cnt.toNat ∧
      s.cnt.toNat ≤ s.len.toNat ∧ s.sum.toNat = sumBytes (s.buf.drop 3) % 256 ∧
      s.buf.take 3 = [0x7E, hiByte s.len, loByte s.len] := by
  simp only [sumBytes_eq_sum_map]
  constructor
  · rintro ⟨hreset, -, ⟨-, -, -, hregs, -⟩, hhead, hstop, -⟩
    obtain ⟨hlen, hle, hsum⟩ := hregs hst
    exact ⟨hreset, hstop (by simp [hst]), hlen, hle, hsum, hhead hst⟩
  · rintro ⟨hreset, hstop, hlen, hle, hsum, hhead⟩
    refine ⟨hreset, by simp [hst], ?_, fun _ => hhead, fun _ => hstop, fun h => absurd hst h⟩
    simp [State.registersAgree, hst, hlen, hle, hsum]

theorem sound_iff_of_stopped (hst : s.st = 4) :
    s.sound ↔ s.resetDone = true ∧ (s.stop = 1 ∨ s.stop = 2) ∧ s.buf = [] ∧ s.cnt = 0 ∧ s.sum = 0 := by
  constructor
  · rintro ⟨hreset, -, ⟨-, -, -, -, hregs⟩, -, -, hcount⟩
    obtain ⟨hstop, hbuf⟩ := hregs hst
    exact ⟨hreset, hstop, hbuf, hcount (by simp [hst])⟩
  · rintro ⟨hreset, hstop, hbuf, hcnt, hsum⟩
    refine ⟨hreset, by simp [hst], ?_, by simp [hst], by simp [hst], fun _ => ⟨hcnt, hsum⟩⟩
    simpa [State.registersAgree, hst, hbuf] using hstop

theorem stCode_of_legalSt (h : s.legalSt) : ∃ p, s.st = stCode p := by
  cases hp : parserState? s.st with
  | none => exact absurd ((parserState?_eq_none_iff _).1 hp) (Nat.not_lt.2 h)
  | some p => exact ⟨p, (parserState?_eq_some_iff _ p).1 hp⟩

theorem resetDone_of_sound (h : s.sound) : s.resetDone = true := h.1

theorem legalSt_of_sound (h : s.sound) : s.legalSt := h.2.1

theorem stop_eq_zero_of_sound (h : s.sound) {live : ParserState} (hl : live ≠ .stopped)
    (hst : s.st = stCode live) : s.stop = 0 := by
  obtain ⟨-, -, -, -, hstop, -⟩ := h
  apply hstop
  cases live with
  | stopped => exact absurd rfl hl
  | awaitDelim | lenHi | lenLo | body => rw [hst]; decide

/-- `cnt` passes `len` in no sound state (R31). -/
theorem cnt_le_len_of_sound (h : s.sound) : s.cnt.toNat ≤ s.len.toNat := by
  by_cases hst : s.st = 3
  · obtain ⟨-, -, -, hle, -⟩ := (sound_iff_of_body hst).1 h
    exact hle
  · obtain ⟨-, -, -, -, -, hcount⟩ := h
    obtain ⟨hcnt, -⟩ := hcount hst
    simp [hcnt]

/-- The bytes held before the one that may end the frame: a header and at most `len` body bytes (R27). -/
theorem buf_length_le_of_sound (h : s.sound) : s.buf.length ≤ 3 + s.len.toNat := by
  obtain ⟨p, hst⟩ := stCode_of_legalSt (legalSt_of_sound h)
  cases p with
  | awaitDelim =>
    obtain ⟨-, -, hbuf, -⟩ := (sound_iff_of_awaitDelim hst).1 h
    simp [hbuf]
  | lenHi =>
    obtain ⟨-, -, hbuf, -⟩ := (sound_iff_of_lenHi hst).1 h
    exact Nat.le_add_right_of_le (by simp [hbuf])
  | lenLo =>
    obtain ⟨-, -, hbuf, -⟩ := (sound_iff_of_lenLo hst).1 h
    exact Nat.le_add_right_of_le (by simp [hbuf])
  | body =>
    obtain ⟨-, -, hlen, hle, -⟩ := (sound_iff_of_body hst).1 h
    omega
  | stopped =>
    obtain ⟨-, -, hbuf, -⟩ := (sound_iff_of_stopped hst).1 h
    simp [hbuf]

/-! ### What soundness does not look at: the ports, the queue, the strap and the mark -/

@[simp] theorem sound_quiet : s.quiet.sound ↔ s.sound := Iff.rfl
@[simp] theorem sound_popInput : s.popInput.sound ↔ s.sound := Iff.rfl
@[simp] theorem sound_emit (e : Event) : (s.emit e).sound ↔ s.sound := Iff.rfl
@[simp] theorem sound_answer (r : Result) : (s.answer r).sound ↔ s.sound := Iff.rfl
@[simp] theorem sound_transmit (f : List Byte) : (s.transmit f).sound ↔ s.sound := Iff.rfl
@[simp] theorem sound_refuse (r : RefuseReason) : (s.refuse r).sound ↔ s.sound := Iff.rfl
@[simp] theorem sound_malformed (b : Byte) : (s.malformed b).sound ↔ s.sound := Iff.rfl
@[simp] theorem sound_acceptFrame (r : FrameRecord) : (s.acceptFrame r).sound ↔ s.awaitDelim.sound := Iff.rfl

/-! ### The transitions -/

/-- The registers a frame leaves are sound wherever `stop` says that the receive side is live. -/
theorem awaitDelim_sound (hreset : s.resetDone = true) (hstop : s.stop = 0) : s.awaitDelim.sound := by
  simp [sound_iff_of_awaitDelim (s.awaitDelim_st), hreset, hstop]

theorem restart_sound : s.restart.sound := by simp [sound_iff_of_awaitDelim (s.restart_st)]

theorem stopReceive_sound (e : Event) {why : BitVec 2} (hwhy : why = 1 ∨ why = 2)
    (hreset : s.resetDone = true) : (s.stopReceive e why).sound := by
  simpa [sound_iff_of_stopped (s.stopReceive_st e why), hreset] using hwhy

theorem startFrame_sound (h : s.sound) (hst : s.st = 0) : s.startFrame.sound := by
  obtain ⟨hreset, hstop, -, -, hcnt, hsum⟩ := (sound_iff_of_awaitDelim hst).1 h
  simp [sound_iff_of_lenHi (s.startFrame_st), hreset, hstop, hcnt, hsum]

theorem takeLenHi_sound (b : Byte) (h : s.sound) (hst : s.st = 1) : (s.takeLenHi b).sound := by
  obtain ⟨hreset, hstop, hbuf, hcnt, hsum⟩ := (sound_iff_of_lenHi hst).1 h
  simp [sound_iff_of_lenLo (s.takeLenHi_st b), hreset, hstop, hbuf, hcnt, hsum]

theorem takeLenLo_sound (b : Byte) (h : s.sound) (hst : s.st = 2) : (s.takeLenLo b).sound := by
  obtain ⟨hreset, hstop, hbuf, -, -⟩ := (sound_iff_of_lenLo hst).1 h
  simp [sound_iff_of_body (s.takeLenLo_st b), hreset, hstop, hbuf]

/-- A body byte before the last: the count stays within `len`, and the running sum is that of the longer
body (R25, R125). -/
theorem takeBody_sound (b : Byte) (h : s.sound) (hst : s.st = 3) (hmore : s.moreBody = true) :
    (s.takeBody b).sound := by
  obtain ⟨hreset, hstop, hlen, -, hsum, hhead⟩ := (sound_iff_of_body hst).1 h
  have hlt : s.cnt.toNat < s.len.toNat := by simpa [State.moreBody] using hmore
  have hcnt : (s.cnt + 1).toNat = s.cnt.toNat + 1 := by
    have := s.len.isLt
    bv_omega
  have hdrop : (s.buf ++ [b]).drop 3 = s.buf.drop 3 ++ [b] := List.drop_append_of_le_length (by omega)
  have htake : (s.buf ++ [b]).take 3 = s.buf.take 3 := List.take_append_of_le_length (by omega)
  rw [sound_iff_of_body ((s.takeBody_st b).trans hst)]
  simp only [State.takeBody_resetDone, State.takeBody_stop, State.takeBody_buf, State.takeBody_cnt,
    State.takeBody_len, State.takeBody_sum, hcnt, hdrop, htake]
  refine ⟨hreset, hstop, ?_, hlt, ?_, hhead⟩
  · simp [hlen, Nat.add_assoc]
  · simp [hsum]

theorem finishFrame_sound (b : Byte) (h : s.sound) (hst : s.st = 3) : (s.finishFrame b).sound := by
  have hend : s.awaitDelim.sound :=
    awaitDelim_sound (resetDone_of_sound h) (stop_eq_zero_of_sound (live := .body) h (by decide) hst)
  obtain ⟨-, hf⟩ | ⟨-, hf⟩ := finishFrame_cases b s <;> simpa [hf] using hend

theorem takeByte_sound (b : Byte) {live : ParserState} (h : s.sound) (hl : live ≠ .stopped)
    (hst : s.st = stCode live) : (s.takeByte b live).sound := by
  obtain ⟨rfl, -, ht⟩ | ⟨-, -, ht⟩ | ⟨rfl, ht⟩ | ⟨rfl, ht⟩ | ⟨rfl, hmore, ht⟩ | ⟨rfl, -, ht⟩ :=
    takeByte_cases b live s hl
  all_goals rw [ht]
  · exact startFrame_sound h hst
  · exact (sound_malformed b).2 h
  · exact takeLenHi_sound b h hst
  · exact takeLenLo_sound b h hst
  · exact takeBody_sound b h hst hmore
  · exact finishFrame_sound b h hst

end Sys2Proof.Proofs
end

section
/-!
SUPPORT. Every instruction is one of seven shared operations; what each of them keeps, every step keeps
(R22, R29, R31, R241).
-/

namespace Sys2Proof.Proofs

open Sys2Proof.Machine

/-! ### The seven operations behind the instructions -/

/-- The shared operations of the block, as meanings of an instruction (spec/10_state.md R26: the symbols of
`rx`, the requests of `op`, `rst`). -/
inductive SharedMeaning : (State → StepResult) → Prop where
  | reset : SharedMeaning execReset
  | byte (b : Byte) : SharedMeaning (receiveByte b)
  | terminal (e : Event) (why : BitVec 2) (hwhy : why = 1 ∨ why = 2) : SharedMeaning (receiveEnd e why)
  | frame (r : FrameRecord) : SharedMeaning (receiveFrame r)
  | refusal (r : RefuseReason) : SharedMeaning (refuseRequest r)
  | answer (o : Except RefuseReason Result) : SharedMeaning (answerRequest o)
  | build (c q : List Byte) (disableAck : Bool) : SharedMeaning (requestFrame c q disableAck)

theorem exec_sharedMeaning (i : Instr) : SharedMeaning (exec i) := by
  cases i with
  | rxByte b => exact .byte b
  | rxTimeout => exact .terminal .readTimeout stopTimeout (.inl rfl)
  | rxFault => exact .terminal .transportFault stopFault (.inr rfl)
  | rxReserved sym => exact .refusal .reservedRxSymbol
  | computeChecksum p => exact .answer (.ok (.byte (checksumOf p)))
  | verifyChecksum f => exact .answer (.ok (.bit (checksumHolds f)))
  | buildRemoteAt c q disableAck => exact .build c q disableAck
  | extractSwitch p => exact .answer ((extractSwitchOf p).map Result.byte)
  | extractVoltage p => exact .answer ((extractVoltageOf p).map Result.millivolts)
  | opReserved0 | opReserved67 _ | opReserved8F _ => exact .refusal .reservedOp
  | reset => exact .reset
  | delimiter => exact .byte Config.delim
  | nonDelimiter b => exact .byte b
  | typeRemoteAtCommand rest => exact .frame (otherRecord (Config.typeRemoteAt :: rest))
  | typeIoDataSample rest => exact .frame (ioRecord (Config.typeIoSample :: rest))
  | typeAtCommandResponse rest => exact .frame (atRecord (Config.typeAtResponse :: rest))
  | typeUnrecognized p => exact .frame (otherRecord p)
  | atCmdD0 q disableAck => exact .build (be16Bytes Config.cmdD0) q disableAck
  | atCmdPctV q disableAck => exact .build (be16Bytes Config.cmdPctV) q disableAck

theorem runWord_sharedMeaning (w : Word) : SharedMeaning (runWord w) := by
  cases hdec : decode w with
  | ok i => exact funext (fun s => runWord_of_ok w i s hdec) ▸ exec_sharedMeaning i
  | error r => exact funext (fun s => runWord_of_error w r s hdec) ▸ .refusal r

/-- A step waits, or runs one of the shared operations once its transaction has left the queue. -/
theorem step_cases (s : State) :
    step s = .next s.quiet ∨ ∃ m, SharedMeaning m ∧ step s = m s.popInput := by
  cases hin : s.inputs with
  | nil => exact .inl (step_of_nil s hin)
  | cons t rest => exact .inr ⟨_, runWord_sharedMeaning _, step_of_cons s t rest hin⟩

variable {s t : State}

/-! ### The strap -/

theorem SharedMeaning.destAddr64_eq {m : State → StepResult} (hm : SharedMeaning m)
    (h : m s = .next t) : t.destAddr64 = s.destAddr64 := by
  cases hm with
  | reset => cases h; simp
  | byte b =>
    obtain ⟨-, ⟨-, rfl⟩ | ⟨live, -, -, rfl⟩⟩ := (receiveByte_next b s t).1 h
    · simp
    · obtain ⟨-, hstrap, -⟩ := takeByte_keeps b live s.quiet
      simpa using hstrap
  | terminal e why _ => obtain ⟨-, ⟨-, rfl⟩ | ⟨-, rfl⟩⟩ := (receiveEnd_next e why s t).1 h <;> simp
  | frame r => obtain ⟨-, ⟨-, rfl⟩ | ⟨-, rfl⟩⟩ := (receiveFrame_next r s t).1 h <;> simp
  | refusal r => obtain ⟨-, rfl⟩ := (refuseRequest_next r s t).1 h; simp
  | answer o => obtain ⟨-, ⟨_, -, rfl⟩ | ⟨_, -, rfl⟩⟩ := (answerRequest_next o s t).1 h <;> simp
  | build c q d => obtain ⟨-, ⟨_, -, rfl⟩ | ⟨_, -, rfl⟩⟩ := (requestFrame_next c q d s t).1 h <;> simp

/-- Settles O48: the strap is written by none of the shared operations (R29). -/
theorem strapNeverChanges : Obligations.StrapNeverChanges := by
  intro s t h
  obtain hwait | ⟨m, hm, hrun⟩ := step_cases s
  · cases hwait.symm.trans h; simp
  · simpa using hm.destAddr64_eq (hrun.symm.trans h)

/-! ### Soundness is kept -/

theorem SharedMeaning.keeps_sound {m : State → StepResult} (hm : SharedMeaning m) (hs : s.sound)
    (h : m s = .next t) : t.sound := by
  have hq : s.quiet.sound := sound_quiet.2 hs
  cases hm with
  | reset => cases h; exact restart_sound
  | byte b =>
    obtain ⟨-, ⟨-, rfl⟩ | ⟨live, hl, hst, rfl⟩⟩ := (receiveByte_next b s t).1 h
    · exact hq
    · exact takeByte_sound b hq hl hst
  | terminal e why hwhy =>
    obtain ⟨hreset, ⟨-, rfl⟩ | ⟨-, rfl⟩⟩ := (receiveEnd_next e why s t).1 h
    · exact hq
    · exact stopReceive_sound e hwhy hreset
  | frame r =>
    obtain ⟨hreset, ⟨-, rfl⟩ | ⟨⟨live, hl, hst⟩, rfl⟩⟩ := (receiveFrame_next r s t).1 h
    · exact hq
    · exact awaitDelim_sound (s := s.quiet) hreset (stop_eq_zero_of_sound hs hl hst)
  | refusal r => obtain ⟨-, rfl⟩ := (refuseRequest_next r s t).1 h; simpa using hs
  | answer o => obtain ⟨-, ⟨_, -, rfl⟩ | ⟨_, -, rfl⟩⟩ := (answerRequest_next o s t).1 h <;> simpa using hs
  | build c q d =>
    obtain ⟨-, ⟨_, -, rfl⟩ | ⟨_, -, rfl⟩⟩ := (requestFrame_next c q d s t).1 h <;> simpa using hs

/-- Settles O45: the invariants of R31 are inductive. -/
theorem stepKeepsSound : Obligations.StepKeepsSound := by
  intro s t hs h
  obtain hwait | ⟨m, hm, hrun⟩ := step_cases s
  · cases hwait.symm.trans h; exact hs
  · exact hm.keeps_sound (sound_popInput.2 hs) (hrun.symm.trans h)

/-! ### No fault in a sound state -/

theorem whileLive_answersNext (k : ParserState → State → State) (h : s.legalSt) :
    answersNext (whileLive s k) := by
  obtain ⟨p, hst⟩ := stCode_of_legalSt h
  by_cases hp : p = .stopped
  · exact ⟨s, whileLive_of_stopped s k (hp ▸ hst)⟩
  · exact ⟨k p s, whileLive_of_stCode s k p hst hp⟩

theorem SharedMeaning.answers {m : State → StepResult} (hm : SharedMeaning m)
    (hreset : s.resetDone = true) (hst : s.legalSt) : answersNext (m s) := by
  cases hm with
  | reset => exact ⟨_, rfl⟩
  | byte b | terminal e why _ | frame r =>
    simpa only [receiveByte, receiveEnd, receiveFrame, afterReset_of_resetDone s _ hreset] using
      whileLive_answersNext (s := s.quiet) _ hst
  | refusal r => exact ⟨_, (refuseRequest_next r s _).2 ⟨hreset, rfl⟩⟩
  | answer o =>
    cases o with
    | ok r => exact ⟨_, (answerRequest_next _ s _).2 ⟨hreset, .inl ⟨r, rfl, rfl⟩⟩⟩
    | error r => exact ⟨_, (answerRequest_next _ s _).2 ⟨hreset, .inr ⟨r, rfl, rfl⟩⟩⟩
  | build c q d =>
    cases hf : buildFrame s.destAddr64 c q d with
    | ok f => exact ⟨_, (requestFrame_next c q d s _).2 ⟨hreset, .inl ⟨f, hf, rfl⟩⟩⟩
    | error r => exact ⟨_, (requestFrame_next c q d s _).2 ⟨hreset, .inr ⟨r, hf, rfl⟩⟩⟩

/-- Settles O46: a block that has been reset faults only on an illegal `st` (R22, R241). -/
theorem soundStepsComplete : Obligations.SoundStepsComplete := by
  intro s hs
  obtain hwait | ⟨m, hm, hrun⟩ := step_cases s
  · exact ⟨_, hwait⟩
  · rw [hrun]
    exact hm.answers (resetDone_of_sound hs) (legalSt_of_sound hs)

/-! ### Runs from reset -/

theorem run_sound (n : Nat) (hs : s.sound) : ∃ t, run n s = .next t ∧ t.sound := by
  induction n generalizing s with
  | zero => exact ⟨s, run_zero s, hs⟩
  | succ n ih =>
    obtain ⟨u, hu⟩ := soundStepsComplete s hs
    rw [run_succ_of_next n s u hu]
    exact ih (stepKeepsSound s u hs hu)

/-- Settles O44 (R32). -/
theorem resetIsSound : Obligations.ResetIsSound := by
  intro addr ts
  rw [sound_iff_of_awaitDelim rfl]
  simp

/-- Settles O47: by induction on the number of steps, from the state after reset (R31). -/
theorem runsFromResetStaySound : Obligations.RunsFromResetStaySound := by
  intro addr ts n
  obtain ⟨t, hrun, ht⟩ := run_sound n (resetIsSound addr ts)
  have hcnt := cnt_le_len_of_sound ht
  exact ⟨t, hrun, ht, by omega⟩

/-- Settles O49: the longest frame has a header, 65535 payload bytes and a checksum byte (R27). -/
theorem bufferNeverOverflows : Obligations.BufferNeverOverflows := by
  intro s b hs
  have hbuf := buf_length_le_of_sound hs
  have hlen := s.len.isLt
  simp only [List.length_append, List.length_singleton]
  omega

/-- Settles O35: `RESET` writes every parser register and leaves the strap (R32, R240). -/
theorem resetLeavesSpecValues : Obligations.ResetLeavesSpecValues := by
  exact ⟨fun addr => by simp, fun s => ⟨s.quiet.restart, rfl, by simp⟩, fun _ _ _ => rfl⟩

end Sys2Proof.Proofs
end

section
/-!
SUPPORT. The receive side where no symbol has an effect: the `st` encodings that name no parser state (R22)
and `STOPPED` (R130).
-/

namespace Sys2Proof.Proofs

open Sys2Proof.Machine

variable {s : State}

/-! ### An `st` encoding of no meaning -/

theorem receiveByte_of_illegal (b : Byte) (hreset : s.resetDone = true) (hst : 4 < s.st.toNat) :
    receiveByte b s = .fault .badParserState := by
  rw [receiveByte, afterReset_of_resetDone s _ hreset, whileLive_of_illegal s.quiet _ hst]

theorem receiveEnd_of_illegal (e : Event) (why : BitVec 2) (hreset : s.resetDone = true)
    (hst : 4 < s.st.toNat) : receiveEnd e why s = .fault .badParserState := by
  rw [receiveEnd, afterReset_of_resetDone s _ hreset, whileLive_of_illegal s.quiet _ hst]

theorem receiveFrame_of_illegal (r : FrameRecord) (hreset : s.resetDone = true) (hst : 4 < s.st.toNat) :
    receiveFrame r s = .fault .badParserState := by
  rw [receiveFrame, afterReset_of_resetDone s _ hreset, whileLive_of_illegal s.quiet _ hst]

theorem receiveFrame_of_stopped (r : FrameRecord) (hreset : s.resetDone = true) (hst : s.st = 4) :
    receiveFrame r s = .next s.quiet :=
  (receiveFrame_next r s _).2 ⟨hreset, .inl ⟨hst, rfl⟩⟩

/-! ### The symbols that are not reserved -/

/-- The symbols that are not reserved: a byte, `Timeout` and `Fault` (R71, R72). -/
theorem reservedRx_eq_false_cases (sym : BitVec 10) (h : reservedRx sym = false) :
    (∃ b, sym = rxByteSym b) ∨ sym = rxTimeoutSym ∨ sym = rxFaultSym := by
  simp only [← rxData?_eq_some_iff, ← Option.isSome_iff_exists]
  revert sym
  decide

/-- Where `st` names no parser state, a byte is no more than a byte (R120). -/
theorem viewByte_of_illegal (b : Byte) (hst : 4 < s.st.toNat) :
    viewByte s b = .port (.rx (rxByteSym b)) := by
  simp only [viewByte, (parserState?_eq_none_iff s.st).2 hst]

theorem step_rx_of_illegal (sym : BitVec 10) (rest : List Transaction) (hreset : s.resetDone = true)
    (hst : 4 < s.st.toNat) (hsym : reservedRx sym = false) :
    step { s with inputs := .rx sym :: rest } = .fault .badParserState := by
  have hstep : ∀ i, decode (viewTransaction { s with inputs := .rx sym :: rest } (.rx sym)) = .ok i →
      step { s with inputs := .rx sym :: rest } = exec i { s with inputs := rest } :=
    fun i => step_of_decode_ok _ _ rest i rfl
  obtain ⟨b, rfl⟩ | rfl | rfl := reservedRx_eq_false_cases sym hsym
  · rw [hstep (.rxByte b) (by simp [viewByte_of_illegal, hst, decode])]
    exact receiveByte_of_illegal b hreset hst
  · rw [hstep .rxTimeout rfl]
    exact receiveEnd_of_illegal _ _ hreset hst
  · rw [hstep .rxFault rfl]
    exact receiveEnd_of_illegal _ _ hreset hst

/-- Settles O10: the receive rows read `st` before anything else (R22, R120; log entries 7 and 10). -/
theorem illegalStatesFaultAndFrameRowsStop : Obligations.IllegalStatesFaultAndFrameRowsStop := by
  constructor
  · intro s rest hreset hst
    have hbyte := fun b => receiveByte_of_illegal b hreset hst
    have hend := fun e why => receiveEnd_of_illegal e why hreset hst
    have hframe := fun r => receiveFrame_of_illegal r hreset hst
    exact ⟨hend _ _, hend _ _, hbyte _, fun b => ⟨hbyte b, hbyte b⟩,
      fun p => ⟨hframe _, hframe _, hframe _, hframe _⟩,
      fun sym hsym => step_rx_of_illegal sym rest hreset hst hsym⟩
  · intro s p hreset hst
    have hframe := fun r => receiveFrame_of_stopped r hreset hst
    exact ⟨hframe _, hframe _, hframe _, hframe _⟩

end Sys2Proof.Proofs
end

section
/-!
SUPPORT. What an `op` request reads and writes: it reads no register but the strap, and writes no parser
register (R50, R53).
-/

namespace Sys2Proof.Proofs

open Sys2Proof.Machine

/-- The meaning of a request: after `RESET` it answers in every parser state, the parser registers stand, no
event is emitted, and what it puts on `res` and `tx` is a function of the strap alone (R53). -/
def ReadsOnlyStrap (m : State → StepResult) : Prop :=
  ∃ (res : BitVec 64 → Result) (tx : BitVec 64 → Option (List Byte)), ∀ s : State, s.resetDone = true →
    ∃ t, m s = .next t ∧ s.sameParser t ∧ t.evt = none ∧ t.res = some (res s.destAddr64) ∧
      t.tx = tx s.destAddr64

/-! ### The three operations behind the requests -/

theorem refuseRequest_readsOnlyStrap (r : RefuseReason) : ReadsOnlyStrap (refuseRequest r) :=
  ⟨fun _ => .refusal r, fun _ => none, fun s hreset =>
    ⟨_, (refuseRequest_next r s _).2 ⟨hreset, rfl⟩, by simp [State.sameParser]⟩⟩

theorem answerRequest_readsOnlyStrap (o : Except RefuseReason Result) :
    ReadsOnlyStrap (answerRequest o) := by
  cases o with
  | ok r =>
    exact ⟨fun _ => r, fun _ => none, fun s hreset =>
      ⟨_, (answerRequest_next _ s _).2 ⟨hreset, .inl ⟨r, rfl, rfl⟩⟩, by simp [State.sameParser]⟩⟩
  | error r => exact refuseRequest_readsOnlyStrap r

/-- The builder's answer as a result: the frame, or the reason it refuses (R150, R151). -/
def builtResult : Except RefuseReason (List Byte) → Result
  | .ok f => .bytes f
  | .error r => .refusal r

/-- A build request is the one request that reads a register, and that register is the strap (R150). -/
theorem requestFrame_readsOnlyStrap (c q : List Byte) (disableAck : Bool) :
    ReadsOnlyStrap (requestFrame c q disableAck) := by
  refine ⟨fun addr => builtResult (buildFrame addr c q disableAck),
    fun addr => (buildFrame addr c q disableAck).toOption, fun s hreset => ?_⟩
  cases hf : buildFrame s.destAddr64 c q disableAck with
  | ok f =>
    exact ⟨_, (requestFrame_next c q disableAck s _).2 ⟨hreset, .inl ⟨f, hf, rfl⟩⟩,
      by simp [State.sameParser, hf, builtResult, Except.toOption]⟩
  | error r =>
    exact ⟨_, (requestFrame_next c q disableAck s _).2 ⟨hreset, .inr ⟨r, hf, rfl⟩⟩,
      by simp [State.sameParser, hf, builtResult, Except.toOption]⟩

/-! ### Every `op` code is one of them -/

theorem exec_decodeOp_readsOnlyStrap (code : BitVec 4) (a : OpArgs) :
    ReadsOnlyStrap (exec (decodeOp code a)) := by
  unfold decodeOp
  split
  · exact refuseRequest_readsOnlyStrap .reservedOp
  · exact answerRequest_readsOnlyStrap (.ok (.byte (checksumOf a.bytes)))
  · exact answerRequest_readsOnlyStrap (.ok (.bit (checksumHolds a.bytes)))
  · exact requestFrame_readsOnlyStrap a.code a.bytes a.disableAck
  · exact answerRequest_readsOnlyStrap ((extractSwitchOf a.bytes).map Result.byte)
  · exact answerRequest_readsOnlyStrap ((extractVoltageOf a.bytes).map Result.millivolts)
  all_goals exact refuseRequest_readsOnlyStrap .reservedOp

theorem exec_decodeAtCmd_readsOnlyStrap (code : Half) (q : List Byte) (disableAck : Bool) :
    ReadsOnlyStrap (exec (decodeAtCmd code q disableAck)) := by
  unfold decodeAtCmd
  split_ifs
  all_goals exact requestFrame_readsOnlyStrap _ q disableAck

/-- The view a step takes of an `op` transaction: the port word, or the command code it names. Neither
depends on the state (log entry 7). -/
theorem viewTransaction_op_cases (code : BitVec 4) (a : OpArgs) :
    (∀ s, viewTransaction s (.op code a) = .port (.op code a)) ∨
      ∃ c, ∀ s, viewTransaction s (.op code a) = .atCmd c a.bytes a.disableAck := by
  by_cases hcode : code = 0x3
  · cases hc : knownCommand a.code with
    | none => exact .inl fun s => by simp [viewTransaction, hcode, hc]
    | some c => exact .inr ⟨c, fun s => by simp [viewTransaction, hcode, hc]⟩
  · exact .inl fun _ => if_neg hcode

/-- In all states a step runs an `op` transaction as one and the same request. -/
theorem step_op (code : BitVec 4) (a : OpArgs) :
    ∃ m, ReadsOnlyStrap m ∧ ∀ (s : State) (rest : List Transaction),
      step { s with inputs := .op code a :: rest } = m { s with inputs := rest } := by
  obtain hview | ⟨c, hview⟩ := viewTransaction_op_cases code a
  · exact ⟨_, exec_decodeOp_readsOnlyStrap code a, fun s rest =>
      step_of_decode_ok _ _ rest _ rfl (by rw [hview]; rfl)⟩
  · exact ⟨_, exec_decodeAtCmd_readsOnlyStrap c a.bytes a.disableAck, fun s rest =>
      step_of_decode_ok _ _ rest _ rfl (by rw [hview]; rfl)⟩

/-- Settles O54: both steps run one request, which reads no register but the strap (R53). -/
theorem requestsAndParserAreIndependent : Obligations.RequestsAndParserAreIndependent := by
  intro s u code a rest hs hu hstrap
  obtain ⟨m, ⟨res, tx, hm⟩, hstep⟩ := step_op code a
  obtain ⟨t, ht, hparser, hevt, hres, htx⟩ := hm { s with inputs := rest } hs
  obtain ⟨v, hv, hparser', hevt', hres', htx'⟩ := hm { u with inputs := rest } hu
  refine ⟨t, v, (hstep s rest).trans ht, (hstep u rest).trans hv, hparser, hparser', hevt, hevt', ?_, ?_⟩
  · rw [hres, hres', hstrap]
  · rw [htx, htx', hstrap]

end Sys2Proof.Proofs
end

section
/-!
SUPPORT. CLASSIFY, arm by arm: the record by the type byte, and for `0x92` and `0x97` by the length and the
command code (R76, R127).
-/

namespace Sys2Proof.Proofs

open Sys2Proof.Machine

variable {p q : List Byte}

/-! ### The record by the type byte -/

theorem classify_cons (t : Byte) (rest : List Byte) :
    classify (t :: rest) =
      if t = Config.typeIoSample then ioRecord (t :: rest)
      else if t = Config.typeAtResponse then atRecord (t :: rest)
      else otherRecord (t :: rest) := rfl

theorem classify_of_io (h : p.head? = some Config.typeIoSample) : classify p = ioRecord p := by
  obtain ⟨rest, rfl⟩ := List.head?_eq_some_iff.1 h
  rw [classify_cons, if_pos rfl]

theorem classify_of_at (h : p.head? = some Config.typeAtResponse) : classify p = atRecord p := by
  obtain ⟨rest, rfl⟩ := List.head?_eq_some_iff.1 h
  rw [classify_cons, if_neg (by decide), if_pos rfl]

/-- Any other type byte, and the payload that has none (R64, R73). -/
theorem classify_of_other (hio : p.head? ≠ some Config.typeIoSample)
    (hat : p.head? ≠ some Config.typeAtResponse) : classify p = otherRecord p := by
  cases p with
  | nil => rfl
  | cons t rest =>
    simp only [List.head?_cons, ne_eq, Option.some.injEq] at hio hat
    rw [classify_cons, if_neg hio, if_neg hat]

/-! ### The arm of `0x92` -/

theorem ioRecord_of_short (h : p.length < Config.minIoPayload) : ioRecord p = shortRecord p := if_pos h

theorem ioRecord_of_reached (h : Config.minIoPayload ≤ p.length) :
    ioRecord p = ⟨.ioSample, p.head?, p, switchState p, 0, false, 0⟩ := if_neg (Nat.not_lt.2 h)

/-! ### The arm of `0x97` -/

theorem atRecord_of_short (h : p.length < Config.minAtPayload) : atRecord p = shortRecord p := if_pos h

theorem atRecord_of_other_code (h : Config.minAtPayload ≤ p.length)
    (hcmd : atCommand p ≠ Config.cmdPctV) :
    atRecord p = ⟨.atResponse, p.head?, p, 0, atCommand p, false, 0⟩ :=
  (if_neg (Nat.not_lt.2 h)).trans (if_pos hcmd)

theorem atRecord_of_short_voltage (h : Config.minAtPayload ≤ p.length)
    (hv : p.length < Config.minVoltagePayload) (hcmd : atCommand p = Config.cmdPctV) :
    atRecord p = shortRecord p :=
  (if_neg (Nat.not_lt.2 h)).trans ((if_neg (not_not.2 hcmd)).trans (if_pos hv))

theorem atRecord_of_voltage (h : Config.minVoltagePayload ≤ p.length)
    (hcmd : atCommand p = Config.cmdPctV) :
    atRecord p = ⟨.atResponse, p.head?, p, 0, atCommand p, true, voltage p⟩ := by
  have hat : ¬ p.length < Config.minAtPayload := Nat.not_lt.2 (Nat.le_trans (by decide) h)
  exact (if_neg hat).trans ((if_neg (not_not.2 hcmd)).trans (if_neg (Nat.not_lt.2 h)))

/-- Settles O17: each clause is one arm of CLASSIFY (R76). -/
theorem kindFollowsLengthAndType : Obligations.KindFollowsLengthAndType := by
  intro p cmd
  refine ⟨fun ht h => ?_, fun ht _ h => ?_, fun ht h hcmd => ?_, fun ht h hcmd => ?_, fun ht _ h => ?_,
    fun ht h hv hcmd => ?_⟩
  · rw [classify_of_io ht, ioRecord_of_reached h]
    exact ⟨rfl, rfl⟩
  · rw [classify_of_io ht, ioRecord_of_short h]
    rfl
  · rw [classify_of_at ht, atRecord_of_other_code h hcmd]
    exact ⟨rfl, rfl, rfl⟩
  · rw [classify_of_at ht, atRecord_of_voltage h hcmd]
    exact ⟨rfl, rfl, rfl, rfl⟩
  · rw [classify_of_at ht, atRecord_of_short h]
    rfl
  · rw [classify_of_at ht, atRecord_of_short_voltage h hv hcmd]
    rfl

/-! ### What a record reads of the payload -/

theorem field16_congr {k : Nat} (hhi : p[k]? = q[k]?) (hlo : p[k + 1]? = q[k + 1]?) :
    field16 p k = field16 q k := by
  simp only [field16, byteAt, List.getD_eq_getElem?_getD, hhi, hlo]

/-- Beside the length and the type byte, the record of a `0x92` payload reads the mask and the sample (R66). -/
theorem ioRecord_congr (hlen : p.length = q.length) (hhead : p.head? = q.head?)
    (hmask : ioMask p = ioMask q) (hsample : ioSample p = ioSample q) :
    { ioRecord p with payload := [] } = { ioRecord q with payload := [] } := by
  simp only [ioRecord, switchState, hlen, hmask, hsample]
  split <;> simp [shortRecord, hhead]

/-- Beside the length and the type byte, the record of a `0x97` payload reads the command code and the value
(R67). -/
theorem atRecord_congr (hlen : p.length = q.length) (hhead : p.head? = q.head?)
    (hcmd : atCommand p = atCommand q) (hvalue : atValue p = atValue q) :
    { atRecord p with payload := [] } = { atRecord q with payload := [] } := by
  simp only [atRecord, voltage, hlen, hcmd, hvalue]
  split_ifs <;> simp [shortRecord, hhead]

/-- Settles O19: the offsets named are the type byte and the two fields the record reads (R66, R67). -/
theorem ignoredPayloadBytesDoNotMatter : Obligations.IgnoredPayloadBytesDoNotMatter := by
  rintro p q hlen (⟨ht, hread⟩ | ⟨ht, hread⟩)
  all_goals
    have hhead : p.head? = q.head? := by simpa only [List.head?_eq_getElem?] using hread 0 (by decide)
  · rw [classify_of_io ht, classify_of_io (hhead ▸ ht)]
    exact ioRecord_congr hlen hhead (field16_congr (hread 13 (by decide)) (hread 14 (by decide)))
      (field16_congr (hread 16 (by decide)) (hread 17 (by decide)))
  · rw [classify_of_at ht, classify_of_at (hhead ▸ ht)]
    exact atRecord_congr hlen hhead (field16_congr (hread 12 (by decide)) (hread 13 (by decide)))
      (field16_congr (hread 15 (by decide)) (hread 16 (by decide)))

end Sys2Proof.Proofs
end

section
/-!
SUPPORT. Frames and build requests as instructions of their own, and that they mean what the transactions on
the ports mean (R64, R68, R120, R127; log entry 7).
-/

namespace Sys2Proof.Proofs

open Sys2Proof.Machine Sys2Proof.Statements

variable {s : State}

/-! ### A validated frame in a live state -/

theorem live_of_st_lt_four (h : s.st.toNat < 4) : ∃ live, live ≠ .stopped ∧ s.st = stCode live := by
  obtain ⟨live, hst⟩ := stCode_of_legalSt (Nat.le_of_lt h)
  refine ⟨live, fun hstop => ?_, hst⟩
  rw [hst, hstop] at h
  exact absurd h (by decide)

/-- `afterFrame`, the statements' record of a validated frame, is the model's own (R126). -/
theorem quiet_acceptFrame_eq_afterFrame (s : State) (r : FrameRecord) :
    s.quiet.acceptFrame r = afterFrame s r := rfl

theorem receiveFrame_of_live (r : FrameRecord) (hreset : s.resetDone = true) (hst : s.st.toNat < 4) :
    receiveFrame r s = .next (afterFrame s r) :=
  (receiveFrame_next r s _).2
    ⟨hreset, .inr ⟨live_of_st_lt_four hst, (quiet_acceptFrame_eq_afterFrame s r).symm⟩⟩

/-- Settles O16: CLASSIFY's last arm, and the two rows that report it (R64, R73, R127). -/
theorem otherFrameIsReported : Obligations.OtherFrameIsReported := by
  intro s rest p hreset hst
  have hframe := fun r => receiveFrame_of_live r hreset hst
  exact ⟨hframe (otherRecord (Config.typeRemoteAt :: rest)),
    classify_of_other (p := Config.typeRemoteAt :: rest) (by simp) (by simp),
    hframe (otherRecord p), fun hio hat => classify_of_other hio hat⟩

/-! ### What the words of the frame level mean -/

/-- A byte means the same on its port and at frame offset 0 (R120 to R122). -/
theorem runWord_rxByteSym (b : Byte) (s : State) :
    runWord (.port (.rx (rxByteSym b))) s = receiveByte b s :=
  runWord_of_ok _ (.rxByte b) s (congrArg Except.ok (decodeRx_rxByteSym b))

theorem runWord_frameByte (b : Byte) (s : State) : runWord (.frameByte b) s = receiveByte b s := by
  rw [runWord_of_ok _ _ s rfl]
  split_ifs with hdelim
  · rw [hdelim]; rfl
  · rfl

theorem decodeType_cons (t : Byte) (rest : List Byte) :
    decodeType (t :: rest) =
      if t = Config.typeRemoteAt then .typeRemoteAtCommand rest
      else if t = Config.typeIoSample then .typeIoDataSample rest
      else if t = Config.typeAtResponse then .typeAtCommandResponse rest
      else .typeUnrecognized (t :: rest) := rfl

/-- The rows of the frame types have CLASSIFY's record between them (R64, R127). -/
theorem exec_decodeType (p : List Byte) (s : State) :
    exec (decodeType p) s = receiveFrame (classify p) s := by
  cases p with
  | nil => rfl
  | cons t rest =>
    rw [decodeType_cons]
    split_ifs with h17 h92 h97
    · rw [h17, classify_of_other (by simp) (by simp)]; rfl
    · rw [h92, classify_of_io rfl]; rfl
    · rw [h97, classify_of_at rfl]; rfl
    · rw [classify_of_other (by simpa using h92) (by simpa using h97)]; rfl

theorem runWord_frameType (p : List Byte) (s : State) :
    runWord (.frameType p) s = receiveFrame (classify p) s :=
  (runWord_of_ok _ _ s rfl).trans (exec_decodeType p s)

/-- A command code with a row of its own is built as any other (R68, R150). -/
theorem runWord_atCmd (c : Half) (q : List Byte) (disableAck : Bool) (s : State) :
    runWord (.atCmd c q disableAck) s = requestFrame (be16Bytes c) q disableAck s := by
  rw [runWord_of_ok _ _ s rfl]
  unfold decodeAtCmd
  split_ifs with hd0 hv
  · rw [hd0]; rfl
  · rw [hv]; rfl
  · rfl

/-! ### The view of a transaction keeps its meaning -/

/-- The byte that ends a frame whose checksum holds is the arrival of that frame (R126, R127). -/
theorem receiveByte_of_frameEnd (b : Byte) (hst : s.st = stCode .body) (hmore : s.moreBody = false)
    (hverdict : s.verdict b = true) :
    receiveByte b s = receiveFrame (classify (s.completedPayload b)) s := by
  have htake : s.quiet.takeByte b .body = s.quiet.acceptFrame (classify (s.completedPayload b)) :=
    (if_neg (ne_true_of_eq_false hmore)).trans (if_pos hverdict)
  unfold receiveByte receiveFrame
  cases hreset : s.resetDone with
  | false => rw [afterReset_of_not_resetDone s _ hreset, afterReset_of_not_resetDone s _ hreset]
  | true =>
    rw [afterReset_of_resetDone s _ hreset, afterReset_of_resetDone s _ hreset,
      whileLive_of_stCode s.quiet _ .body hst (by decide),
      whileLive_of_stCode s.quiet _ .body hst (by decide), htake]

/-- What a byte is in the state it meets: a byte at frame offset 0, the end of a valid frame, or a byte of
`rx`. -/
theorem viewByte_cases (s : State) (b : Byte) :
    viewByte s b = .frameByte b ∨
      (s.st = stCode .body ∧ s.moreBody = false ∧ s.verdict b = true ∧
        viewByte s b = .frameType (s.completedPayload b)) ∨
      viewByte s b = .port (.rx (rxByteSym b)) := by
  unfold viewByte
  split
  · exact .inl rfl
  · rename_i hst
    split_ifs with hmore hverdict
    · exact .inr (.inr rfl)
    · exact .inr (.inl ⟨(parserState?_eq_some_iff _ _).1 hst, by simpa using hmore, hverdict, rfl⟩)
    · exact .inr (.inr rfl)
  · exact .inr (.inr rfl)

theorem runWord_viewByte (s : State) (b : Byte) : runWord (viewByte s b) s = receiveByte b s := by
  obtain hview | ⟨hst, hmore, hverdict, hview⟩ | hview := viewByte_cases s b
  · rw [hview, runWord_frameByte]
  · rw [hview, runWord_frameType, receiveByte_of_frameEnd b hst hmore hverdict]
  · rw [hview, runWord_rxByteSym]

/-- A transaction seen at the level of the frames runs as on its port (log entry 7). -/
theorem runWord_viewTransaction (s : State) (t : Transaction) :
    runWord (viewTransaction s t) s = runWord (.port t) s := by
  cases t with
  | rst bit => rfl
  | rx sym =>
    cases hsym : rxData? sym with
    | none => simp only [viewTransaction, hsym]
    | some b =>
      obtain rfl := (rxData?_eq_some_iff sym b).1 hsym
      rw [viewTransaction_rxByte, runWord_viewByte, runWord_rxByteSym]
  | op code a =>
    by_cases hcode : code = 0x3
    · subst hcode
      cases hc : knownCommand a.code with
      | none => simp only [viewTransaction, hc, if_true]
      | some c =>
        obtain ⟨hbytes, -⟩ := knownCommand_eq_some a.code c hc
        simp only [viewTransaction, hc, if_true]
        rw [runWord_atCmd, ← hbytes]
        rfl
    · simp only [viewTransaction, hcode, if_false]

/-- Settles O37: both words run alike (log entry 7). -/
theorem frameLevelViewKeepsMeaning : Obligations.FrameLevelViewKeepsMeaning := by
  intro s t i j hport hview
  calc exec j s = runWord (viewTransaction s t) s := (runWord_of_ok _ j s hview).symm
    _ = runWord (.port t) s := runWord_viewTransaction s t
    _ = exec i s := runWord_of_ok _ i s hport

end Sys2Proof.Proofs
end

section
/-!
SUPPORT. The reserved encodings (R72), and words written out from the tables (R64, R68, R71, R72).
-/

namespace Sys2Proof.Proofs

open Sys2Proof.Machine Sys2Proof.Statements

variable {s : State}

/-! ### The reserved symbols of `rx` -/

/-- R72 over the two lanes of a symbol, kind and data (R71). -/
theorem reservedRx_append (kind : BitVec 2) (d : Byte) :
    reservedRx (kind ++ d) = (kind == 3 || ((kind == 1 || kind == 2) && d != 0)) := by
  have hkind : (kind ++ d).extractLsb' 8 2 = kind := BitVec.extractLsb'_append_eq_left
  have hdata : (kind ++ d).extractLsb' 0 8 = d := BitVec.extractLsb'_append_eq_right
  rw [reservedRx, hkind, hdata]

theorem rxData?_of_reserved {sym : BitVec 10} (h : reservedRx sym = true) : rxData? sym = none := by
  refine if_neg fun hkind => ?_
  simp [reservedRx, hkind] at h

theorem decodeRx_of_reserved {sym : BitVec 10} (h : reservedRx sym = true) :
    decodeRx sym = .rxReserved sym := by
  have htimeout : sym ≠ rxTimeoutSym := fun hsym => absurd (hsym ▸ h) (by decide)
  have hfault : sym ≠ rxFaultSym := fun hsym => absurd (hsym ▸ h) (by decide)
  simp only [decodeRx, rxData?_of_reserved h, if_neg htimeout, if_neg hfault]

theorem step_rx_of_reserved {sym : BitVec 10} (rest : List Transaction) (hreset : s.resetDone = true)
    (h : reservedRx sym = true) :
    step { s with inputs := .rx sym :: rest } =
      .next { afterRefusal s .reservedRxSymbol with inputs := rest } := by
  have hdec : decode (viewTransaction { s with inputs := .rx sym :: rest } (.rx sym)) =
      .ok (.rxReserved sym) := by
    simp only [viewTransaction, rxData?_of_reserved h, decode, decodeRx_of_reserved h]
  rw [step_of_decode_ok _ _ rest _ rfl hdec]
  exact refuseRequest_of_resetDone _ _ hreset

/-! ### The reserved codes of `op` -/

theorem exec_decodeOp_of_reserved {code : BitVec 4} (a : OpArgs) (s : State)
    (h : code = 0 ∨ 6 ≤ code.toNat) : exec (decodeOp code a) s = refuseRequest .reservedOp s := by
  have hcode : code.toNat = 0 ∨ 6 ≤ code.toNat := h.imp_left fun hzero => by rw [hzero]; rfl
  unfold decodeOp
  split
  case h_2 | h_3 | h_4 | h_5 | h_6 => omega
  all_goals rfl

theorem step_op_of_reserved {code : BitVec 4} (a : OpArgs) (rest : List Transaction)
    (hreset : s.resetDone = true) (h : code = 0 ∨ 6 ≤ code.toNat) :
    step { s with inputs := .op code a :: rest } =
      .next { afterRefusal s .reservedOp with inputs := rest } := by
  have hbuild : code ≠ 0x3 := by rintro rfl; exact absurd h (by decide)
  rw [step_of_decode_ok _ _ rest (decodeOp code a) rfl (by rw [viewTransaction, if_neg hbuild]; rfl),
    exec_decodeOp_of_reserved a _ h]
  exact refuseRequest_of_resetDone _ _ hreset

/-- Settles O11: each reserved encoding runs as a refusal, and the type byte has no reserved value (R72). -/
theorem reservedEncodingsAreRefused : Obligations.ReservedEncodingsAreRefused := by
  refine ⟨fun s rest hreset => ?_, fun p => ⟨decodeType p, rfl⟩⟩
  have hrefuse := fun r => refuseRequest_of_resetDone s r hreset
  have hrx := fun (kind : BitVec 2) (d : Byte) => step_rx_of_reserved (sym := kind ++ d) rest hreset
  refine ⟨fun _ => hrefuse _, hrefuse _, fun _ => hrefuse _, fun _ => hrefuse _, fun _ a h =>
    step_op_of_reserved a rest hreset h, fun d => hrx 3 d ?_, fun d hd => ⟨hrx 1 d ?_, hrx 2 d ?_⟩,
    step_of_decode_error _ _ rest .reservedRst rfl rfl hreset⟩
  · simp [reservedRx_append]
  all_goals simpa [reservedRx_append] using hd

/-! ### Words written out -/

/-- Settles O41: the `rx` words by the laws of `decodeRx`, the others by the tables' rows themselves. -/
theorem writtenWordsDecode : Obligations.WrittenWordsDecode :=
  ⟨congrArg Except.ok (decodeRx_rxByteSym 0x7E), congrArg Except.ok decodeRx_timeout,
    congrArg Except.ok decodeRx_fault, congrArg Except.ok (decodeRx_of_reserved rfl),
    rfl, rfl, rfl, rfl, rfl, rfl⟩

end Sys2Proof.Proofs
end

section
/-!
SUPPORT. The checksum codec: the sum of a byte list under the changes the check is asked about, the checksum
as a word of eight bits, and the two requests (R100 to R103).
-/

namespace Sys2Proof.Proofs

open Sys2Proof.Machine Sys2Proof.Statements

variable {s : State} {p q f : List Byte}

/-! ### The sum of a byte list -/

/-- The sum does not see the order of the bytes (R101). -/
theorem sumBytes_perm (h : p.Perm q) : sumBytes p = sumBytes q := by
  simp only [sumBytes_eq_sum_map]
  exact (h.map BitVec.toNat).sum_eq

/-- Changing one byte changes the sum by the difference of the two bytes. -/
theorem sumBytes_set (p : List Byte) (i : Nat) (b : Byte) (h : i < p.length) :
    sumBytes (p.set i b) + p[i].toNat = sumBytes p + b.toNat := by
  induction p generalizing i with
  | nil => exact absurd h (Nat.not_lt_zero i)
  | cons c p ih =>
    cases i with
    | zero =>
      simp only [List.set_cons_zero, List.getElem_cons_zero, sumBytes_cons]
      omega
    | succ i =>
      have := ih i (Nat.lt_of_succ_lt_succ h)
      simp only [List.set_cons_succ, List.getElem_cons_succ, sumBytes_cons]
      omega

theorem sumBytes_le (p : List Byte) : sumBytes p ≤ 255 * p.length := by
  induction p with
  | nil => simp
  | cons b p ih =>
    have := b.isLt
    rw [sumBytes_cons, List.length_cons]
    omega

/-- An accumulator of eight bits holds the sum mod 256 at every byte (R103). -/
theorem foldl_add_eq_add_ofNat_sumBytes (p : List Byte) (acc : BitVec 8) :
    p.foldl (fun acc b => acc + b) acc = acc + BitVec.ofNat 8 (sumBytes p) := by
  induction p generalizing acc with
  | nil => simp
  | cons b p ih =>
    rw [List.foldl_cons, ih, sumBytes_cons, BitVec.ofNat_add, BitVec.ofNat_toNat, BitVec.setWidth_eq,
      BitVec.add_assoc]

/-! ### The checksum byte and the verdict -/

/-- The checksum is the bitwise NOT of the 8-bit sum (R100). -/
theorem checksumOf_eq_not (p : List Byte) : checksumOf p = ~~~(BitVec.ofNat 8 (sumBytes p)) := by
  apply BitVec.eq_of_toNat_eq
  rw [checksumOf_toNat, BitVec.toNat_not, BitVec.toNat_ofNat]

/-- The checksum byte completes the sum of its payload to `0xFF` (R100). -/
theorem sumBytes_append_checksumOf_mod (p : List Byte) : sumBytes (p ++ [checksumOf p]) % 256 = 0xFF := by
  simp only [sumBytes_append, sumBytes_cons, sumBytes_nil, checksumOf_toNat]
  omega

theorem checksumHolds_header_append {h : List Byte} (hh : h.length = 3) (p : List Byte) :
    checksumHolds (h ++ p) = (sumBytes p % 256 == 0xFF) := by
  rw [checksumHolds, List.drop_left' hh]

theorem checksumHolds_eq_decide_total (f : List Byte) :
    checksumHolds f = decide (total (f.drop 3) % 256 = 0xFF) := by
  rw [checksumHolds, sumBytes_eq_sum_map]
  rfl

/-- The sums before and after the change differ by two unequal bytes, so they are not equal mod 256. -/
theorem checksumHolds_set (i : Nat) (b : Byte) (hi : 3 ≤ i) (hlen : i < f.length) (hb : f[i]? ≠ some b)
    (h : checksumHolds f = true) : checksumHolds (f.set i b) = false := by
  have hdrop : i - 3 < (f.drop 3).length := by rw [List.length_drop]; omega
  have hset := sumBytes_set (f.drop 3) (i - 3) b hdrop
  have hget : (f.drop 3)[i - 3] = f[i] := by simp [Nat.add_sub_cancel' hi]
  have hne : f[i].toNat ≠ b.toNat := fun he =>
    hb (by rw [List.getElem?_eq_getElem hlen, BitVec.eq_of_toNat_eq he])
  rw [hget] at hset
  rw [checksumHolds_iff] at h
  rw [← Bool.not_eq_true, checksumHolds_iff, List.drop_set, if_neg (Nat.not_lt.2 hi)]
  have := f[i].isLt
  have := b.isLt
  omega

/-- Settles O22: the verdict reads only the sum of the bytes from offset 3 on (R101). -/
theorem verifyIsOrderBlindAndCatchesOneByte : Obligations.VerifyIsOrderBlindAndCatchesOneByte := by
  refine ⟨fun h k p q hh hk hpq => ?_, fun f i b => checksumHolds_set i b⟩
  rw [checksumHolds_header_append hh, checksumHolds_header_append hk, sumBytes_perm hpq]

/-- Settles O24: subtracting from `0xFF` is the bitwise NOT, so the accumulator gives the checksum (R103). -/
theorem wrappingAccumulatorAgrees : Obligations.WrappingAccumulatorAgrees := by
  refine fun p => ⟨?_, fun hlen => ?_⟩
  · have hacc : p.foldl (fun acc b => acc + b) (0 : BitVec 8) = BitVec.ofNat 8 (sumBytes p) :=
      (foldl_add_eq_add_ofNat_sumBytes p 0).trans (BitVec.zero_add _)
    rw [hacc, checksumOf_eq_not]
    exact (BitVec.allOnes_sub_eq_not _).symm
  · have := sumBytes_le p
    rw [total, ← sumBytes_eq_sum_map]
    omega

/-! ### The two requests -/

/-- `afterAnswer`, the statements' record of an answer, is the model's own (R50, R53). -/
theorem quiet_answer_eq_afterAnswer (s : State) (r : Result) : s.quiet.answer r = afterAnswer s r := rfl

theorem answerRequest_of_ok (r : Result) (h : s.resetDone = true) :
    answerRequest (.ok r) s = .next (afterAnswer s r) :=
  (answerRequest_next _ s _).2 ⟨h, .inl ⟨r, rfl, (quiet_answer_eq_afterAnswer s r).symm⟩⟩

/-- Every `op` code but that of the builder is seen as it stands on its port (R71). -/
theorem step_op_of_ne_build {code : BitVec 4} (hcode : code ≠ 0x3) (a : OpArgs) (s : State)
    (rest : List Transaction) :
    step { s with inputs := .op code a :: rest } = exec (decodeOp code a) { s with inputs := rest } :=
  step_of_decode_ok _ _ rest _ rfl (by rw [viewTransaction, if_neg hcode]; rfl)

theorem exec_computeChecksum_next (p : List Byte) (h : s.resetDone = true) :
    exec (.computeChecksum p) s = .next (afterAnswer s (.byte (checksumOf p))) :=
  answerRequest_of_ok _ h

theorem exec_verifyChecksum_next (f : List Byte) (h : s.resetDone = true) :
    exec (.verifyChecksum f) s = .next (afterAnswer s (.bit (checksumHolds f))) :=
  answerRequest_of_ok _ h

/-- Settles O23: behind any header the payload and its checksum byte sum to `0xFF` (R102). -/
theorem checksumCodecLaw : Obligations.ChecksumCodecLaw := by
  intro s p h1 h2 hreset _
  refine ⟨checksumOf p, exec_computeChecksum_next p hreset, ?_⟩
  have hholds : checksumHolds ([0x7E, h1, h2] ++ p ++ [checksumOf p]) = true := by
    rw [List.append_assoc, checksumHolds_header_append rfl, sumBytes_append_checksumOf_mod]
    rfl
  rw [exec_verifyChecksum_next _ hreset, hholds]

/-- Settles O20: the byte answered is `checksumOf`, by value, as the NOT and by its sum (R100). -/
theorem computeChecksumAnswers : Obligations.ComputeChecksumAnswers := by
  intro s p c d rest hreset
  simp only [total, ← sumBytes_eq_sum_map]
  exact ⟨checksumOf p, checksumOf_toNat p, checksumOf_eq_not p, sumBytes_append_checksumOf_mod p,
    exec_computeChecksum_next p hreset,
    (step_op_of_ne_build (by decide) _ s rest).trans (exec_computeChecksum_next p hreset)⟩

/-- Settles O21: the bit answered is the verdict on the bytes from offset 3 on (R101). -/
theorem verifyChecksumAnswers : Obligations.VerifyChecksumAnswers := by
  intro s f c d rest hreset v
  have hv : v = checksumHolds f := (checksumHolds_eq_decide_total f).symm
  rw [hv]
  exact ⟨exec_verifyChecksum_next f hreset,
    (step_op_of_ne_build (by decide) _ s rest).trans (exec_verifyChecksum_next f hreset)⟩

end Sys2Proof.Proofs
end

section
/-!
SUPPORT. One symbol on `rx` in each parser state, as an instruction and as a step (R120 to R130, R134).
-/

namespace Sys2Proof.Proofs

open Sys2Proof.Machine

variable {s : State}

/-! ### A step on a symbol -/

/-- A step does with its transaction what the port's own row does, once the transaction has left the queue:
the view it takes looks at no field that leaving the queue changes (log entry 7). -/
theorem step_cons (s : State) (t : Transaction) (rest : List Transaction) :
    step { s with inputs := t :: rest } = runWord (.port t) { s with inputs := rest } := by
  have hview : viewTransaction { s with inputs := t :: rest } t =
      viewTransaction { s with inputs := rest } t := by
    cases t <;> rfl
  rw [step_of_cons _ t rest rfl, popInput_of_cons _ t rest rfl, hview]
  exact runWord_viewTransaction _ t

theorem step_rxByteSym (b : Byte) (s : State) (rest : List Transaction) :
    step { s with inputs := .rx (rxByteSym b) :: rest } = receiveByte b { s with inputs := rest } :=
  (step_cons s _ rest).trans (runWord_rxByteSym b _)

theorem step_rxTimeoutSym (s : State) (rest : List Transaction) :
    step { s with inputs := .rx rxTimeoutSym :: rest } = exec .rxTimeout { s with inputs := rest } :=
  (step_cons s _ rest).trans (runWord_of_ok _ _ _ (congrArg Except.ok decodeRx_timeout))

theorem step_rxFaultSym (s : State) (rest : List Transaction) :
    step { s with inputs := .rx rxFaultSym :: rest } = exec .rxFault { s with inputs := rest } :=
  (step_cons s _ rest).trans (runWord_of_ok _ _ _ (congrArg Except.ok decodeRx_fault))

/-! ### A byte in a live state -/

/-- A byte reads and writes nothing of the queue. -/
theorem takeByte_setInputs (b : Byte) (live : ParserState) (s : State) (ts : List Transaction) :
    ({ s with inputs := ts } : State).takeByte b live = { s.takeByte b live with inputs := ts } := by
  cases live with
  | awaitDelim => simp only [State.takeByte]; split_ifs <;> rfl
  | body =>
    have hmore : ({ s with inputs := ts } : State).moreBody = s.moreBody := rfl
    have hverdict : ({ s with inputs := ts } : State).verdict b = s.verdict b := rfl
    simp only [State.takeByte, State.finishFrame, hmore, hverdict]
    split_ifs <;> rfl
  | lenHi | lenLo | stopped => rfl

theorem receiveByte_of_live {live : ParserState} (b : Byte) (hreset : s.resetDone = true)
    (hst : s.st = stCode live) (hl : live ≠ .stopped) :
    receiveByte b s = .next (s.quiet.takeByte b live) :=
  (receiveByte_next b s _).2 ⟨hreset, .inr ⟨live, hl, hst, rfl⟩⟩

theorem step_rxByteSym_of_live {live : ParserState} (b : Byte) (rest : List Transaction)
    (hreset : s.resetDone = true) (hst : s.st = stCode live) (hl : live ≠ .stopped) :
    step { s with inputs := .rx (rxByteSym b) :: rest } =
      .next { s.quiet.takeByte b live with inputs := rest } := by
  rw [step_rxByteSym, receiveByte_of_live (s := { s with inputs := rest }) b hreset hst hl]
  exact congrArg _ (takeByte_setInputs b live s.quiet rest)

/-- A byte on `rx` in a live state, as an instruction and as a step, leaves the state `t` that the parser's
dispatch leaves (R120). -/
theorem rxByte_of_live {live : ParserState} {b : Byte} {t : State} (rest : List Transaction)
    (hreset : s.resetDone = true) (hst : s.st = stCode live) (hl : live ≠ .stopped)
    (ht : s.quiet.takeByte b live = t) :
    exec (.rxByte b) s = .next t ∧
      step { s with inputs := .rx (rxByteSym b) :: rest } = .next { t with inputs := rest } :=
  ht ▸ ⟨receiveByte_of_live b hreset hst hl, step_rxByteSym_of_live b rest hreset hst hl⟩

theorem takeByte_delim (s : State) : s.takeByte Config.delim .awaitDelim = s.startFrame := by
  rw [State.takeByte, if_pos rfl]

theorem takeByte_noise {b : Byte} (s : State) (h : b ≠ Config.delim) :
    s.takeByte b .awaitDelim = s.malformed b := if_neg h

/-- Settles O1: in `AWAIT_DELIM` the delimiter takes R120's first arm (R121). -/
theorem delimiterStartsFrame : Obligations.DelimiterStartsFrame := by
  intro s rest hreset hst t
  obtain ⟨hexec, hstep⟩ :=
    rxByte_of_live (live := .awaitDelim) rest hreset hst (by decide) (takeByte_delim s.quiet)
  exact ⟨hexec, hexec, hstep⟩

/-- Settles O2: in `AWAIT_DELIM` every other byte takes R120's second arm (R122). -/
theorem otherByteIsMalformedFrame : Obligations.OtherByteIsMalformedFrame := by
  intro s b rest hreset hst hb t
  obtain ⟨hexec, hstep⟩ :=
    rxByte_of_live (live := .awaitDelim) rest hreset hst (by decide) (takeByte_noise s.quiet hb)
  exact ⟨hexec, hexec, hstep⟩

/-- Settles O3 (R123). -/
theorem lengthHighByteIsTaken : Obligations.LengthHighByteIsTaken :=
  fun _ _ rest hreset hst => rxByte_of_live (live := .lenHi) rest hreset hst (by decide) rfl

/-- Settles O4 (R124). -/
theorem lengthLowByteIsTaken : Obligations.LengthLowByteIsTaken :=
  fun _ _ rest hreset hst => rxByte_of_live (live := .lenLo) rest hreset hst (by decide) rfl

/-! ### A byte in `BODY` -/

theorem moreBody_iff (s : State) : s.moreBody = true ↔ s.cnt.toNat + 1 < s.len.toNat + 1 :=
  decide_eq_true_iff

theorem moreBody_eq_false_iff (s : State) : s.moreBody = false ↔ ¬ s.cnt.toNat + 1 < s.len.toNat + 1 :=
  decide_eq_false_iff_not

theorem takeByte_body_of_more (b : Byte) (h : s.moreBody = true) : s.takeByte b .body = s.takeBody b :=
  if_pos h

theorem takeByte_body_of_last (b : Byte) (h : s.moreBody = false) :
    s.takeByte b .body = s.finishFrame b := if_neg (ne_true_of_eq_false h)

/-- The running sum is kept mod 256 (R25). -/
theorem add_eq_ofNat_mod (x b : Byte) : x + b = BitVec.ofNat 8 ((x.toNat + b.toNat) % 256) := by
  apply BitVec.eq_of_toNat_eq
  simp

theorem verdict_eq_decide (b : Byte) (s : State) :
    s.verdict b = decide ((s.sum.toNat + b.toNat) % 256 = 0xFF) := by
  simp only [State.verdict, beq_eq_decide, ← BitVec.toNat_inj, BitVec.toNat_add]
  rfl

/-- The frame's end in one piece: its verdict decides only the event (R126). -/
theorem finishFrame_eq_emit (b : Byte) (s : State) :
    s.finishFrame b = s.awaitDelim.emit
      (if s.verdict b then .frameOk (classify (s.completedPayload b)) else .badChecksum (s.buf ++ [b])) :=
  (apply_ite (fun e => s.awaitDelim.emit e) _ _ _).symm

/-- Settles O5: more body bytes are to come, and the new sum is the old one plus the byte (R125). -/
theorem bodyByteIsAppended : Obligations.BodyByteIsAppended := by
  intro s b rest hreset hst hmore
  refine rxByte_of_live (live := .body) rest hreset hst (by decide) ?_
  rw [takeByte_body_of_more (s := s.quiet) b ((moreBody_iff _).2 hmore), ← add_eq_ofNat_mod]
  rfl

/-- Settles O6: no more body bytes are to come, so the byte is the checksum (R126). -/
theorem lastBodyByteEndsFrame : Obligations.LastBodyByteEndsFrame := by
  intro s b rest hreset hst hlast
  refine rxByte_of_live (live := .body) rest hreset hst (by decide) ?_
  rw [takeByte_body_of_last (s := s.quiet) b ((moreBody_eq_false_iff _).2 hlast), finishFrame_eq_emit,
    verdict_eq_decide]
  simp only [decide_eq_true_eq]
  rfl

/-! ### The end of the receive side -/

theorem receiveEnd_of_live (e : Event) (why : BitVec 2) (hreset : s.resetDone = true)
    (hst : s.st.toNat < 4) : receiveEnd e why s = .next (s.quiet.stopReceive e why) :=
  (receiveEnd_next e why s _).2 ⟨hreset, .inr ⟨live_of_st_lt_four hst, rfl⟩⟩

/-- Settles O7 (R128). -/
theorem timeoutStopsReceive : Obligations.TimeoutStopsReceive :=
  fun s rest hreset hst => ⟨receiveEnd_of_live _ _ hreset hst,
    (step_rxTimeoutSym s rest).trans (receiveEnd_of_live _ _ hreset hst)⟩

/-- Settles O8 (R129). -/
theorem transportFaultStopsReceive : Obligations.TransportFaultStopsReceive :=
  fun s rest hreset hst => ⟨receiveEnd_of_live _ _ hreset hst,
    (step_rxFaultSym s rest).trans (receiveEnd_of_live _ _ hreset hst)⟩

/-! ### `STOPPED` -/

theorem receiveByte_of_stopped (b : Byte) (hreset : s.resetDone = true) (hst : s.st = 4) :
    receiveByte b s = .next s.quiet :=
  (receiveByte_next b s _).2 ⟨hreset, .inl ⟨hst, rfl⟩⟩

theorem receiveEnd_of_stopped (e : Event) (why : BitVec 2) (hreset : s.resetDone = true)
    (hst : s.st = 4) : receiveEnd e why s = .next s.quiet :=
  (receiveEnd_next e why s _).2 ⟨hreset, .inl ⟨hst, rfl⟩⟩

/-- Settles O9: each of the three kinds of symbol is ignored (R130). -/
theorem stoppedIgnoresRx : Obligations.StoppedIgnoresRx := by
  intro s rest hreset hst t
  have hbyte := fun b => receiveByte_of_stopped b hreset hst
  have hend := fun e why => receiveEnd_of_stopped e why hreset hst
  refine ⟨hend _ _, hend _ _, hbyte _, fun b => ⟨hbyte b, hbyte b⟩, fun sym hsym => ?_⟩
  obtain ⟨b, rfl⟩ | rfl | rfl := reservedRx_eq_false_cases sym hsym
  · exact (step_rxByteSym b s rest).trans (receiveByte_of_stopped b hreset hst)
  · exact (step_rxTimeoutSym s rest).trans (receiveEnd_of_stopped _ _ hreset hst)
  · exact (step_rxFaultSym s rest).trans (receiveEnd_of_stopped _ _ hreset hst)

/-! ### Inside a frame -/

/-- The parser states of a frame that has begun: the encodings between `AWAIT_DELIM` and `STOPPED` (R22). -/
theorem inside_cases (hlo : 1 ≤ s.st.toNat) (hhi : s.st.toNat ≤ 3) :
    ∃ live, s.st = stCode live ∧ live ≠ .stopped ∧ live ≠ .awaitDelim := by
  obtain ⟨live, hl, hst⟩ := live_of_st_lt_four (Nat.lt_succ_of_le hhi)
  refine ⟨live, hst, hl, fun hawait => ?_⟩
  rw [hst, hawait] at hlo
  exact absurd hlo (by decide)

/-- Inside a frame a byte ends the frame, or it is appended to the buffer with no event, and its value
decides neither which of the two nor the next `st` and `cnt` (R131, R134). -/
theorem takeByte_inside_cases {live : ParserState} (s : State) (hl : live ≠ .stopped)
    (ha : live ≠ .awaitDelim) :
    (live = .body ∧ s.moreBody = false) ∨
      ∃ st cnt, ∀ b, (s.takeByte b live).st = st ∧ (s.takeByte b live).cnt = cnt ∧
        (s.takeByte b live).buf = s.buf ++ [b] ∧ (s.takeByte b live).evt = s.evt := by
  cases live with
  | stopped => exact absurd rfl hl
  | awaitDelim => exact absurd rfl ha
  | lenHi => exact .inr ⟨_, _, fun b => ⟨rfl, rfl, rfl, rfl⟩⟩
  | lenLo => exact .inr ⟨_, _, fun b => ⟨rfl, rfl, rfl, rfl⟩⟩
  | body =>
    cases hmore : s.moreBody with
    | false => exact .inl ⟨rfl, rfl⟩
    | true =>
      refine .inr ⟨s.st, s.cnt + 1, fun b => ?_⟩
      rw [takeByte_body_of_more b hmore]
      exact ⟨rfl, rfl, rfl, rfl⟩

/-- Settles O12: the delimiter and the data byte take one and the same arm of R120, which reads the byte's
value for the registers `len`, `sum` and `buf` alone (R134). -/
theorem delimiterIsDataInsideFrame : Obligations.DelimiterIsDataInsideFrame := by
  intro s hreset hlo hhi
  obtain ⟨live, hst, hl, ha⟩ := inside_cases hlo hhi
  have hbyte := fun b => receiveByte_of_live b hreset hst hl
  refine ⟨_, hbyte _, hbyte _, ?_⟩
  obtain ⟨rfl, hlast⟩ | ⟨st, cnt, hkept⟩ := takeByte_inside_cases s.quiet hl ha
  · have hfull : ¬ s.cnt.toNat < s.len.toNat := fun h =>
      (moreBody_eq_false_iff _).1 hlast (Nat.succ_lt_succ h)
    rw [takeByte_body_of_last _ hlast, finishFrame_eq_emit]
    exact ⟨.inl ⟨hst, hfull, Option.some_ne_none _⟩, fun b => ⟨rfl, .inl ⟨hst, hfull⟩⟩⟩
  · obtain ⟨hst', hcnt, hbuf, hevt⟩ := hkept Config.delim
    refine ⟨.inr ⟨hbuf, hevt⟩, fun b => ⟨rfl, .inr ⟨_, hbyte b, ?_⟩⟩⟩
    obtain ⟨hst'', hcnt', hbuf', -⟩ := hkept b
    exact ⟨hst''.trans hst'.symm, hcnt'.trans hcnt.symm, hbuf'⟩

end Sys2Proof.Proofs
end

section
/-!
SUPPORT. Runs of several bytes on `rx`: noise between frames (R122), and a whole frame with the verdict on it
(R126, R131 to R133), which is the frame that `decodeFrame` reads off the wire.
-/

namespace Sys2Proof.Proofs

open Sys2Proof.Machine Sys2Proof.Statements

variable {s : State}

/-- A run of bytes in a live state takes the first byte and goes on with the others. -/
theorem run_succ_rxByteSym_of_live {live : ParserState} (k : Nat) (b : Byte) (ts : List Transaction)
    (hreset : s.resetDone = true) (hst : s.st = stCode live) (hl : live ≠ .stopped) :
    run (k + 1) { s with inputs := .rx (rxByteSym b) :: ts } =
      run k { s.quiet.takeByte b live with inputs := ts } :=
  run_succ_of_next k _ _ (step_rxByteSym_of_live b ts hreset hst hl)

/-! ### Noise -/

/-- A byte of noise leaves the registers in which the next one is noise too (R122). -/
theorem run_succ_noise {b : Byte} (k : Nat) (ts : List Transaction) (hreset : s.resetDone = true)
    (hst : s.st = 0) (hb : b ≠ Config.delim) :
    run (k + 1) { s with inputs := .rx (rxByteSym b) :: ts } =
      run k { s.quiet.malformed b with inputs := ts } := by
  rw [run_succ_rxByteSym_of_live (live := .awaitDelim) k b ts hreset hst (by decide), takeByte_noise _ hb]

/-- Settles O56: by induction on the noise; each event takes the place of the one before (R122). -/
theorem noiseIsSkippedByteByByte : Obligations.NoiseIsSkippedByteByByte := by
  intro s noise b rest hreset hst hnoise hb
  induction noise generalizing s with
  | nil => exact run_succ_noise 0 rest hreset hst hb
  | cons x noise ih =>
    obtain ⟨hx, hnoise⟩ := List.forall_mem_cons.1 hnoise
    exact (run_succ_noise _ _ hreset hst hx).trans (ih (s.quiet.malformed x) hreset hst hnoise)

/-! ### The verdict on a frame -/

theorem checksumHolds_append_singleton {f : List Byte} (b : Byte) (h : 3 ≤ f.length) :
    checksumHolds (f ++ [b]) = decide ((sumBytes (f.drop 3) + b.toNat) % 256 = 0xFF) := by
  rw [checksumHolds, List.drop_append_of_le_length h, sumBytes_append]
  rfl

/-- Where `sum` is the sum of the body received, the running-sum verdict is the frame's (R133). -/
theorem verdict_eq_checksumHolds (b : Byte) (hbuf : 3 ≤ s.buf.length)
    (hsum : s.sum.toNat = sumBytes (s.buf.drop 3) % 256) :
    s.verdict b = checksumHolds (s.buf ++ [b]) := by
  rw [verdict_eq_decide, checksumHolds_append_singleton b hbuf, hsum, Nat.mod_add_mod]

/-- Settles O13: R31 in `BODY` is what ties the register `sum` to the buffer (R133). -/
theorem runningSumVerdictIsVerify : Obligations.RunningSumVerdictIsVerify := by
  rintro s b hreset ⟨-, -, -, hbody, -⟩ hst
  obtain ⟨hlen, -, hsum⟩ := hbody hst
  refine ⟨hsum, ?_⟩
  rw [exec_verifyChecksum_next _ hreset,
    ← verdict_eq_checksumHolds b (hlen ▸ Nat.le_add_right 3 _) (by rw [hsum, sumBytes_eq_sum_map]),
    verdict_eq_decide]

/-! ### A whole frame -/

/-- The event that the whole frame `f` with length field `L` ends in (R126). -/
def frameEvent (f : List Byte) (L : Nat) : Event :=
  if checksumHolds f then .frameOk (classify (payloadOf f L)) else .badChecksum f

theorem frameEvent_of_holds {f : List Byte} (L : Nat) (h : checksumHolds f = true) :
    frameEvent f L = .frameOk (classify (payloadOf f L)) := if_pos h

/-- In a sound state the frame's end reports the event of the bytes received (R126, R133). -/
theorem finishFrame_of_sound (b : Byte) (h : s.sound) (hst : s.st = 3) :
    s.finishFrame b = s.awaitDelim.emit (frameEvent (s.buf ++ [b]) s.len.toNat) := by
  obtain ⟨-, -, hlen, -, hsum, -⟩ := (sound_iff_of_body hst).1 h
  rw [finishFrame_eq_emit, verdict_eq_checksumHolds b (hlen ▸ Nat.le_add_right 3 _) hsum]
  rfl

/-- Between frames the parser registers are the cleared ones (R31). -/
theorem awaitDelim_eq_of_sound (h : s.sound) (hst : s.st = 0) : s.awaitDelim = s := by
  obtain ⟨-, -, hbuf, hlen, hcnt, hsum⟩ := (sound_iff_of_awaitDelim hst).1 h
  simp only [State.awaitDelim, State.clear, stCode, ← hst, ← hbuf, ← hlen, ← hcnt, ← hsum]

theorem takeBody_cnt_toNat (b : Byte) (hmore : s.moreBody = true) :
    (s.takeBody b).cnt.toNat = s.cnt.toNat + 1 := by
  have hlt := (moreBody_iff s).1 hmore
  have := s.len.isLt
  rw [State.takeBody_cnt]
  bv_omega

/-- The rest `p` of a payload and the checksum byte `b` after it end the frame, whatever their values, by
induction on `p`: each byte of it is a body byte that is not the last (R125, R126, R131). -/
theorem run_body (p : List Byte) (b : Byte) (ts : List Transaction) (h : s.sound) (hst : s.st = 3)
    (hlen : s.cnt.toNat + p.length = s.len.toNat) :
    run (p.length + 1) { s with inputs := rxStream (p ++ [b]) ++ ts } =
      .next { s.quiet.awaitDelim.emit (frameEvent (s.buf ++ (p ++ [b])) s.len.toNat) with inputs := ts } := by
  have hreset := resetDone_of_sound h
  induction p generalizing s with
  | nil =>
    have hlast : s.quiet.moreBody = false := (moreBody_eq_false_iff _).2 (by simpa using hlen.ge)
    refine (run_succ_rxByteSym_of_live (live := .body) 0 b ts hreset hst (by decide)).trans ?_
    rw [takeByte_body_of_last b hlast, finishFrame_of_sound b (sound_quiet.2 h) hst]
    rfl
  | cons x p ih =>
    have hmore : s.quiet.moreBody = true := (moreBody_iff _).2 (by
      simp only [List.length_cons, State.quiet_cnt, State.quiet_len] at hlen ⊢
      omega)
    have hnext : (s.quiet.takeBody x).sound := takeBody_sound x (sound_quiet.2 h) hst hmore
    have hlen' : (s.quiet.takeBody x).cnt.toNat + p.length = (s.quiet.takeBody x).len.toNat := by
      rw [takeBody_cnt_toNat x hmore, Nat.add_assoc, Nat.add_comm 1]
      exact hlen
    refine (run_succ_rxByteSym_of_live (live := .body) _ x _ hreset hst (by decide)).trans ?_
    rw [takeByte_body_of_more x hmore]
    refine (ih hnext hst hlen' hreset).trans ?_
    rw [State.takeBody_buf, List.append_assoc]
    rfl

/-- The parser once the delimiter and the two length bytes are in (R121, R123, R124). -/
def headerTaken (hi lo : Byte) (s : State) : State := (s.startFrame.takeLenHi hi).takeLenLo lo

theorem headerTaken_sound (hi lo : Byte) (h : s.sound) (hst : s.st = 0) : (headerTaken hi lo s).sound :=
  takeLenLo_sound lo (takeLenHi_sound hi (startFrame_sound h hst) rfl) rfl

theorem headerTaken_len (hi lo : Byte) (s : State) : (headerTaken hi lo s).len = be16 hi lo := by
  simp [headerTaken, lenWithLo]

theorem run_header (k : Nat) (hi lo : Byte) (ts : List Transaction) (hreset : s.resetDone = true)
    (hst : s.st = 0) :
    run (k + 3) { s with inputs := rxStream [Config.delim, hi, lo] ++ ts } =
      run k { headerTaken hi lo s.quiet with inputs := ts } := by
  refine (run_succ_rxByteSym_of_live (live := .awaitDelim) _ _ _ hreset hst (by decide)).trans ?_
  rw [takeByte_delim]
  refine (run_succ_rxByteSym_of_live (s := s.quiet.startFrame) (live := .lenHi) _ _ _ hreset rfl
    (by decide)).trans ?_
  exact run_succ_rxByteSym_of_live (s := s.quiet.startFrame.takeLenHi hi) (live := .lenLo) _ _ _ hreset rfl
    (by decide)

/-- A frame takes its header and `L + 1` body bytes and leaves the registers it began with (R131, R132). -/
theorem run_frame {hi lo : Byte} {body : List Byte} (ts : List Transaction) (h : s.sound) (hst : s.st = 0)
    (hbody : body.length = (be16 hi lo).toNat + 1) :
    run (body.length + 3) { s with inputs := rxStream ([Config.delim, hi, lo] ++ body) ++ ts } =
      .next { s.quiet.emit (frameEvent ([Config.delim, hi, lo] ++ body) (be16 hi lo).toNat) with
        inputs := ts } := by
  obtain rfl | ⟨p, b, rfl⟩ := List.eq_nil_or_concat' body
  · exact absurd hbody (Nat.succ_ne_zero _).symm
  have hlen : p.length = (be16 hi lo).toNat := by simpa using hbody
  have hheader := headerTaken_sound hi lo (sound_quiet.2 h) hst
  have hcount : (headerTaken hi lo s.quiet).cnt.toNat + p.length = (headerTaken hi lo s.quiet).len.toNat := by
    rw [headerTaken_len, ← hlen]
    exact Nat.zero_add _
  have hbuf : (headerTaken hi lo s.quiet).buf = [Config.delim, hi, lo] := rfl
  have hend : (headerTaken hi lo s.quiet).quiet.awaitDelim = s.quiet :=
    awaitDelim_eq_of_sound (sound_quiet.2 h) hst
  rw [List.length_append]
  refine (run_header _ hi lo _ (resetDone_of_sound h) hst).trans ((run_body p b ts hheader rfl hcount).trans ?_)
  rw [hend, hbuf, headerTaken_len]

/-- Settles O55: `L` is the value of the two length bytes, and the body is all that follows them (R131). -/
theorem frameConsumesExactlyItsLength : Obligations.FrameConsumesExactlyItsLength := by
  intro s hi lo body rest h hst hbody f e
  have hL := be16_toNat hi lo
  have hrun := run_frame rest h hst (hbody.trans (congrArg (· + 1) hL.symm))
  rw [hbody, hL] at hrun
  exact hrun

/-! ### The frame decoder -/

/-- What the frame decoder accepts: a delimiter, a length `L`, and a body of `L + 1` bytes whose checksum
holds (R60, R61, R74, R101). -/
theorem decodeFrame_ok {bytes rest : List Byte} {i : Instr} (h : decodeFrame bytes = .ok (i, rest)) :
    ∃ hi lo body, bytes = [Config.delim, hi, lo] ++ body ++ rest ∧
      body.length = (be16 hi lo).toNat + 1 ∧ checksumHolds ([Config.delim, hi, lo] ++ body) = true ∧
      i = decodeType (body.take (be16 hi lo).toNat) := by
  unfold decodeFrame at h
  split at h
  · cases h
  · split at h
    · cases h
    · rename_i d tail hdelim
      obtain rfl := not_not.1 hdelim
      split at h
      · rename_i hi lo body
        simp only at h
        split_ifs at h with hshort hholds
        cases h
        have htake : (body.take ((be16 hi lo).toNat + 1)).take (be16 hi lo).toNat =
            body.take (be16 hi lo).toNat := by rw [List.take_take, Nat.min_eq_left (Nat.le_succ _)]
        refine ⟨hi, lo, body.take ((be16 hi lo).toNat + 1), by simp, ?_, hholds, by rw [htake]⟩
        exact List.length_take_of_le (Nat.not_lt.1 hshort)
      · cases h

/-- Between frames the row of a validated frame changes no register (R126, R127). -/
theorem exec_decodeType_of_sound (p : List Byte) (h : s.sound) (hst : s.st = 0) :
    exec (decodeType p) s = .next (s.quiet.emit (.frameOk (classify p))) := by
  rw [exec_decodeType, receiveFrame_of_live _ (resetDone_of_sound h) (by simp [hst]),
    ← quiet_acceptFrame_eq_afterFrame, State.acceptFrame, awaitDelim_eq_of_sound (sound_quiet.2 h) hst]

/-- Settles O43: the bytes that decode are a whole frame whose checksum holds, and its row reports the record
that the run of its bytes reports (R126, R127, R131). -/
theorem machineRunsDecodedFrame : Obligations.MachineRunsDecodedFrame := by
  intro s i bytes rest h hst hdec
  obtain ⟨hi, lo, body, rfl, hbody, hholds, rfl⟩ := decodeFrame_ok hdec
  have hsteps : ([Config.delim, hi, lo] ++ body ++ rest).length - rest.length = body.length + 3 := by
    simp only [List.length_append, List.length_cons, List.length_nil]
    omega
  have hrow := exec_decodeType_of_sound (s := { s with inputs := rxStream rest })
    (body.take (be16 hi lo).toNat) h hst
  rw [hsteps, hrow, rxStream, List.map_append, run_frame _ h hst hbody, frameEvent_of_holds _ hholds]
  rfl

end Sys2Proof.Proofs
end

section
/-!
SUPPORT. The records of the two frame types with fields, written out byte by byte (R127, R170, R171).
-/

namespace Sys2Proof.Proofs

open Sys2Proof.Machine Sys2Proof.Statements

variable {s : State}

/-- The low eight bits of a big-endian field are those of its second byte (R43). -/
theorem be16_getLsbD_of_lt (hi lo : Byte) {i : Nat} (h : i < 8) : (be16 hi lo).getLsbD i = lo.getLsbD i := by
  rw [be16, BitVec.getLsbD_append, if_pos h]

theorem and_switchMask (x : Half) :
    (x &&& Config.switchMask).setWidth 8 = if x.getLsbD 3 then (0x08 : Byte) else 0x00 := by
  have hmask : Config.switchMask = BitVec.twoPow 16 3 := rfl
  rw [hmask, BitVec.and_twoPow]
  split_ifs <;> rfl

/-- The switch is bit 3 of both second bytes (R170). -/
theorem switchState_eq_ite (p : List Byte) :
    switchState p = if (byteAt p 14).getLsbD 3 && (byteAt p 17).getLsbD 3 then 0x08 else 0x00 := by
  rw [switchState, and_switchMask, BitVec.getLsbD_and, ioMask, ioSample, field16, field16,
    be16_getLsbD_of_lt _ _ (by decide), be16_getLsbD_of_lt _ _ (by decide)]

/-- The voltage from the two bytes of the value (R171). -/
theorem voltage_eq_ofNat (p : List Byte) :
    voltage p = BitVec.ofNat 17 (((byteAt p 15).toNat * 256 + (byteAt p 16).toNat) * 1200 / 1024) := by
  rw [voltage, millivoltsOf, atValue, field16, be16_toNat]

/-- Settles O14: by the length, CLASSIFY's arm for `0x92` (R127, R170). -/
theorem ioSampleFrameIsReported : Obligations.IoSampleFrameIsReported := by
  intro s rest hreset hst p short sw r
  have hrecord : ioRecord p = r := by
    by_cases hshort : p.length < 18
    · exact (ioRecord_of_short hshort).trans (if_pos hshort).symm
    · rw [ioRecord_of_reached (Nat.not_lt.1 hshort), switchState_eq_ite]
      exact (if_neg hshort).symm
  exact ⟨hrecord ▸ receiveFrame_of_live _ hreset hst, (classify_of_io rfl).trans hrecord⟩

/-- Settles O15: by the length and the command code, CLASSIFY's arm for `0x97` (R127, R171). -/
theorem atResponseFrameIsReported : Obligations.AtResponseFrameIsReported := by
  intro s rest hreset hst p short cmd raw r
  have hrecord : atRecord p = r := by
    simp only [r]
    split_ifs with hshort hcmd hshortv
    · exact atRecord_of_short hshort
    · exact atRecord_of_other_code (Nat.not_lt.1 hshort) hcmd
    · exact atRecord_of_short_voltage (Nat.not_lt.1 hshort) hshortv (not_not.1 hcmd)
    · rw [atRecord_of_voltage (Nat.not_lt.1 hshortv) (not_not.1 hcmd), voltage_eq_ofNat]
      rfl
  exact ⟨hrecord ▸ receiveFrame_of_live _ hreset hst, (classify_of_at rfl).trans hrecord⟩

end Sys2Proof.Proofs
end

section
/-!
SUPPORT. The frame builder: what it answers by its operand checks, and the payload and the frame it answers
written out byte by byte (R65, R150 to R153).
-/

namespace Sys2Proof.Proofs

open Sys2Proof.Machine Sys2Proof.Statements

variable {s : State} {c q : List Byte}

/-! ### The request by its operands -/

/-- What an accepted build request leaves: the frame on `res` and on `tx`, nothing else (R150). -/
def afterBuild (s : State) (f : List Byte) : State :=
  { s with evt := none, res := some (.bytes f), tx := some f }

theorem quiet_transmit_eq_afterBuild (s : State) (f : List Byte) :
    (s.quiet.answer (.bytes f)).transmit f = afterBuild s f := rfl

theorem requestFrame_of_accepted (d : Bool) (hreset : s.resetDone = true) (hc : c.length = 2)
    (hq : q.length ≤ 65520) :
    requestFrame c q d s = .next (afterBuild s (wireFrame (remoteAtPayload s.destAddr64 c q d))) := by
  obtain ⟨hbad, -⟩ | ⟨-, hlong, -⟩ | ⟨-, -, hok⟩ := buildFrame_cases s.destAddr64 c q d
  · exact absurd hc hbad
  · exact absurd hq (Nat.not_le_of_lt hlong)
  · exact (requestFrame_next c q d s _).2 ⟨hreset, .inl ⟨_, hok, (quiet_transmit_eq_afterBuild s _).symm⟩⟩

theorem requestFrame_of_error {r : RefuseReason} (d : Bool) (hreset : s.resetDone = true)
    (herror : buildFrame s.destAddr64 c q d = .error r) :
    requestFrame c q d s = .next (afterRefusal s r) :=
  (requestFrame_next c q d s _).2 ⟨hreset, .inr ⟨r, herror, (quiet_refuse_eq_afterRefusal s r).symm⟩⟩

theorem requestFrame_of_bad_code (d : Bool) (hreset : s.resetDone = true) (hc : c.length ≠ 2) :
    requestFrame c q d s = .next (afterRefusal s .badCommandCode) :=
  requestFrame_of_error d hreset (if_pos hc)

theorem requestFrame_of_long (d : Bool) (hreset : s.resetDone = true) (hc : c.length = 2)
    (hq : 65520 < q.length) : requestFrame c q d s = .next (afterRefusal s .lengthOverflow) :=
  requestFrame_of_error d hreset ((if_neg (not_not.2 hc)).trans (if_pos hq))

/-- Settles O26: the code is tested first, then the parameter list; the codes of the two rows have two bytes
(R68, R151). -/
theorem buildOperandsAreChecked : Obligations.BuildOperandsAreChecked := by
  intro s c q d hreset
  exact ⟨requestFrame_of_bad_code d hreset, requestFrame_of_long d hreset,
    fun hq => ⟨requestFrame_of_long d hreset rfl hq, requestFrame_of_long d hreset rfl hq⟩,
    fun hc hq => ⟨_, requestFrame_of_accepted d hreset hc hq⟩⟩

/-! ### The frame byte by byte -/

theorem hiByte_ofNat (n : Nat) : hiByte (BitVec.ofNat 16 n) = BitVec.ofNat 8 (n / 256) := by
  apply BitVec.eq_of_toNat_eq
  simp only [hiByte, BitVec.extractLsb'_toNat, BitVec.toNat_ofNat, Nat.shiftRight_eq_div_pow]
  omega

theorem loByte_ofNat (n : Nat) : loByte (BitVec.ofNat 16 n) = BitVec.ofNat 8 (n % 256) := by
  apply BitVec.eq_of_toNat_eq
  simp only [loByte, BitVec.extractLsb'_toNat, BitVec.toNat_ofNat, Nat.shiftRight_zero]
  omega

/-- The options byte has two values (R69, R150). -/
theorem optionsByte_eq_ite (d : Bool) : optionsByte d = if d then 0x03 else 0x02 := by
  cases d <;> rfl

/-- `L = 15 + n` (R152). -/
theorem remoteAtPayload_pair_length (a : BitVec 64) (c0 c1 : Byte) (q : List Byte) (d : Bool) :
    (remoteAtPayload a [c0, c1] q d).length = 15 + q.length := by
  rw [remoteAtPayload_length]
  rfl

/-- The frame on the wire is the one the statements write out (R65, R150). -/
theorem wireFrame_remoteAtPayload (a : BitVec 64) (c0 c1 : Byte) (q : List Byte) (d : Bool) :
    wireFrame (remoteAtPayload a [c0, c1] q d) = builtFrame a c0 c1 q d := by
  rw [wireFrame, remoteAtPayload_pair_length, be16Bytes, hiByte_ofNat, loByte_ofNat, checksumOf,
    sumBytes_eq_sum_map, remoteAtPayload, optionsByte_eq_ite]
  rfl

theorem requestFrame_pair (c0 c1 : Byte) (d : Bool) (hreset : s.resetDone = true) (hq : q.length ≤ 65520) :
    requestFrame [c0, c1] q d s = .next (afterBuild s (builtFrame s.destAddr64 c0 c1 q d)) := by
  rw [requestFrame_of_accepted d hreset rfl hq, wireFrame_remoteAtPayload]

/-- Settles O25: the three rows are one request, and a step runs it as the row of its port (R68, R150). -/
theorem buildRemoteAtAnswersFrame : Obligations.BuildRemoteAtAnswersFrame := by
  intro s c0 c1 q d rest hreset hq
  exact ⟨requestFrame_pair c0 c1 d hreset hq, requestFrame_pair 0x44 0x30 d hreset hq,
    requestFrame_pair 0x25 0x56 d hreset hq, (step_cons s _ rest).trans
      (requestFrame_pair (s := { s with inputs := rest }) c0 c1 d hreset hq)⟩

/-! ### The closed form of the checksum -/

theorem optionsByte_toNat (d : Bool) : (optionsByte d).toNat = 0x02 + if d then 1 else 0 := by
  cases d <;> rfl

/-- The sum of a built payload, field by field (R65, R153). -/
theorem sumBytes_remoteAtPayload (a : BitVec 64) (c0 c1 : Byte) (q : List Byte) (d : Bool) :
    sumBytes (remoteAtPayload a [c0, c1] q d) =
      0x17 + 0x04 + sumBytes (be64Bytes a) + 0xFF + 0xFE + (0x02 + if d then 1 else 0) + c0.toNat + c1.toNat +
        sumBytes q := by
  have htype : sumBytes [Config.typeRemoteAt, Config.frameId] = 0x17 + 0x04 := rfl
  have haddr16 : sumBytes (be16Bytes Config.destAddr16) = 0xFF + 0xFE := rfl
  simp only [remoteAtPayload, sumBytes_append, htype, haddr16, sumBytes_cons, sumBytes_nil, optionsByte_toNat]
  omega

/-- Settles O27: the last byte is the checksum of the payload, whose sum has one term for each field; the
address enters it mod 256 (R153). -/
theorem builtChecksumClosedForm : Obligations.BuiltChecksumClosedForm := by
  intro s c0 c1 q d hreset hq sA closed
  refine ⟨⟨_, _, checksumOf (remoteAtPayload s.destAddr64 [c0, c1] q d),
    requestFrame_of_accepted d hreset rfl hq, rfl, ?_⟩, ?_, ?_, ?_⟩
  · rw [checksumOf_toNat, sumBytes_remoteAtPayload]
    simp only [closed, sA, total, ← sumBytes_eq_sum_map]
    omega
  all_goals
    simp only [closed, total, List.map_cons, List.map_nil, List.sum_cons, List.sum_nil, BitVec.reduceToNat,
      if_true, Bool.false_eq_true, if_false]
    omega

end Sys2Proof.Proofs
end

section
/-!
SUPPORT. The frame of a payload fed to the parser between frames: no event before its last byte, and the
record of the payload at the end (R102, R126, R131, R154).
-/

namespace Sys2Proof.Proofs

open Sys2Proof.Machine Sys2Proof.Statements

variable {s : State} {p : List Byte}

/-! ### The frame of a payload -/

/-- A frame's checksum byte is the one its payload has (R102). -/
theorem checksumHolds_wireFrame (p : List Byte) : checksumHolds (wireFrame p) = true := by
  have hdrop : (wireFrame p).drop 3 = p ++ [checksumOf p] := by rw [wireFrame_eq]; rfl
  rw [checksumHolds_iff, hdrop, sumBytes_append_checksumOf_mod]

theorem payloadOf_wireFrame (p : List Byte) : payloadOf (wireFrame p) p.length = p := by
  rw [payloadOf, wireFrame_eq]
  exact List.take_left

/-- The two length bytes hold the payload's length, as far as the field can (R61, R62). -/
theorem lengthBytes_toNat (hp : p.length ≤ maxPayload) :
    (be16 (hiByte (BitVec.ofNat 16 p.length)) (loByte (BitVec.ofNat 16 p.length))).toNat = p.length := by
  rw [be16_hiByte_loByte, BitVec.toNat_ofNat]
  exact Nat.mod_eq_of_lt (Nat.lt_succ_of_le hp)

/-! ### No event before the last byte -/

/-- Up to the last body byte the body is taken without an event, by induction on the bytes taken (R125). -/
theorem run_body_silent (k : Nat) (body : List Byte) (ts : List Transaction) (hreset : s.resetDone = true)
    (hst : s.st = 3) (hevt : s.evt = none) (hk : k ≤ body.length) (hlen : s.cnt.toNat + k ≤ s.len.toNat) :
    ∃ v, run k { s with inputs := rxStream body ++ ts } = .next v ∧ v.evt = none := by
  induction k generalizing s body with
  | zero => exact ⟨_, rfl, hevt⟩
  | succ k ih =>
    cases body with
    | nil => exact absurd hk (Nat.not_succ_le_zero k)
    | cons x body =>
      have hmore : s.quiet.moreBody = true := (moreBody_iff _).2 (by
        simp only [State.quiet_cnt, State.quiet_len]
        omega)
      have hlen' : (s.quiet.takeBody x).cnt.toNat + k ≤ (s.quiet.takeBody x).len.toNat := by
        rw [takeBody_cnt_toNat x hmore, Nat.add_assoc, Nat.add_comm 1]
        exact hlen
      have hstep := run_succ_rxByteSym_of_live (live := .body) k x (rxStream body ++ ts) hreset hst (by decide)
      rw [takeByte_body_of_more x hmore] at hstep
      obtain ⟨v, hrun, hv⟩ := ih body (s := s.quiet.takeBody x) hreset hst rfl
        (Nat.le_of_succ_le_succ hk) hlen'
      exact ⟨v, hstep.trans hrun, hv⟩

/-- A frame that starts between frames emits nothing before its last byte (R121, R123 to R125). -/
theorem run_frame_silent {hi lo : Byte} {body : List Byte} (ts : List Transaction) (n : Nat)
    (hreset : s.resetDone = true) (hst : s.st = 0) (hbody : body.length = (be16 hi lo).toNat + 1)
    (hn : n < body.length + 3) :
    ∃ v, run n { s with inputs := rxStream ([Config.delim, hi, lo] ++ body) ++ ts } = .next v ∧
      (n ≠ 0 → v.evt = none) := by
  have hdelim := fun k => run_succ_rxByteSym_of_live (live := .awaitDelim) k Config.delim
    (rxStream (hi :: lo :: body) ++ ts) hreset hst (by decide)
  rw [takeByte_delim] at hdelim
  have hhi := fun k => run_succ_rxByteSym_of_live (s := s.quiet.startFrame) (live := .lenHi) k hi
    (rxStream (lo :: body) ++ ts) hreset rfl (by decide)
  match n with
  | 0 => exact ⟨_, rfl, fun hzero => absurd rfl hzero⟩
  | 1 => exact ⟨_, hdelim 0, fun _ => rfl⟩
  | 2 => exact ⟨_, (hdelim 1).trans (hhi 0), fun _ => rfl⟩
  | k + 3 =>
    have hcount : (headerTaken hi lo s.quiet).cnt.toNat + k ≤ (headerTaken hi lo s.quiet).len.toNat := by
      have hcnt : (headerTaken hi lo s.quiet).cnt.toNat = 0 := rfl
      rw [headerTaken_len, hcnt]
      omega
    obtain ⟨v, hrun, hv⟩ := run_body_silent (s := headerTaken hi lo s.quiet) k body ts hreset rfl rfl
      (by omega) hcount
    exact ⟨v, (run_header k hi lo _ hreset hst).trans hrun, fun _ => hv⟩

/-! ### The run of a payload's frame -/

theorem run_wireFrame_silent (ts : List Transaction) (n : Nat) (hreset : s.resetDone = true) (hst : s.st = 0)
    (hp : p.length ≤ maxPayload) (hn : n < (wireFrame p).length) :
    ∃ v, run n { s with inputs := rxStream (wireFrame p) ++ ts } = .next v ∧ (n ≠ 0 → v.evt = none) := by
  rw [wireFrame_length] at hn
  rw [wireFrame_eq]
  refine run_frame_silent ts n hreset hst (body := p ++ [checksumOf p]) ?_ ?_
  · rw [lengthBytes_toNat hp, List.length_append, List.length_singleton]
  · rwa [List.length_append, List.length_singleton]

/-- Between frames a validated frame changes no register (R126). -/
theorem afterFrame_of_sound (r : FrameRecord) (h : s.sound) (hst : s.st = 0) :
    afterFrame s r = s.quiet.emit (.frameOk r) := by
  rw [← quiet_acceptFrame_eq_afterFrame, State.acceptFrame, awaitDelim_eq_of_sound (sound_quiet.2 h) hst]

/-- The frame of a payload is accepted between frames, with CLASSIFY's record (R126, R127, R131). -/
theorem run_wireFrame (ts : List Transaction) (h : s.sound) (hst : s.st = 0) (hp : p.length ≤ maxPayload) :
    run (wireFrame p).length { s with inputs := rxStream (wireFrame p) ++ ts } =
      .next (afterFrame { s with inputs := ts } (classify p)) := by
  have hL := lengthBytes_toNat hp
  have hrun := run_frame (body := p ++ [checksumOf p]) ts h hst
    (by rw [hL, List.length_append, List.length_singleton])
  have hframe : [Config.delim, hiByte (BitVec.ofNat 16 p.length), loByte (BitVec.ofNat 16 p.length)] ++
      (p ++ [checksumOf p]) = wireFrame p := (wireFrame_eq p).symm
  have hafter : afterFrame { s with inputs := ts } (classify p) =
      { afterFrame s (classify p) with inputs := ts } := rfl
  rw [hframe, hL, frameEvent_of_holds _ (checksumHolds_wireFrame p), payloadOf_wireFrame,
    ← afterFrame_of_sound _ h hst, ← hafter, List.length_append, List.length_singleton] at hrun
  rw [wireFrame_length]
  exact hrun

/-! ### The frame of a build request -/

theorem remoteAtPayload_head? (a : BitVec 64) (c q : List Byte) (d : Bool) :
    (remoteAtPayload a c q d).head? = some 0x17 := rfl

/-- A built frame, received, is of kind `OTHER` (R64, R154). -/
theorem classify_remoteAtPayload (a : BitVec 64) (c q : List Byte) (d : Bool) :
    classify (remoteAtPayload a c q d) =
      ⟨.other, some 0x17, remoteAtPayload a c q d, 0, 0, false, 0⟩ :=
  classify_of_other (by rw [remoteAtPayload_head?]; decide) (by rw [remoteAtPayload_head?]; decide)

/-- Settles O28: a built frame is the frame of its payload, which has at most 65535 bytes, so it passes the
check and the parser reports it (R154). -/
theorem builtFramesAreAccepted : Obligations.BuiltFramesAreAccepted := by
  intro s u c0 c1 q d rest hreset hq hu hst
  have hL := remoteAtPayload_pair_length s.destAddr64 c0 c1 q d
  have hclassify := classify_remoteAtPayload s.destAddr64 [c0, c1] q d
  have hbuild := requestFrame_of_accepted (c := [c0, c1]) d hreset rfl hq
  generalize remoteAtPayload s.destAddr64 [c0, c1] q d = p at hL hclassify hbuild
  have hmax : p.length ≤ maxPayload := by rw [hL, maxPayload]; omega
  have hpayload : ((wireFrame p).drop 3).take (15 + q.length) = p := hL ▸ payloadOf_wireFrame p
  refine ⟨wireFrame p, hbuild, ?_, ?_, ?_, ?_, ?_, ?_⟩
  · rw [wireFrame_length, hL]
  · rw [← hL, wireFrame_eq, ← be16_toNat]
    exact lengthBytes_toNat hmax
  · rw [wireFrame_length, Nat.add_sub_cancel, hL, hpayload, hL]
  · rw [exec_verifyChecksum_next _ hreset, checksumHolds_wireFrame]
  · exact fun n hn => run_wireFrame_silent rest n (resetDone_of_sound hu) hst hmax hn
  · rw [run_wireFrame rest hu hst hmax, hclassify, hpayload]

end Sys2Proof.Proofs
end

section
/-!
SUPPORT. The field extractor: each guard of the two extractors, CLASSIFY read backwards, and the voltage's
arithmetic (R170 to R174).
-/

namespace Sys2Proof.Proofs

open Sys2Proof.Machine Sys2Proof.Statements

variable {s : State} {p : List Byte}

/-! ### The bytes the guards look at -/

/-- Behind the length guard, the byte at offset 0 is the frame type (R64). -/
theorem byteAt_zero_eq_iff (t : Byte) (h : 0 < p.length) : byteAt p 0 = t ↔ p.head? = some t := by
  cases p with
  | nil => exact absurd h (Nat.lt_irrefl 0)
  | cons b rest => exact Option.some_inj.symm

theorem be16_eq_iff (hi lo : Byte) (v : Half) : be16 hi lo = v ↔ hi = hiByte v ∧ lo = loByte v := by
  constructor
  · rintro rfl
    exact ⟨(hiByte_be16 hi lo).symm, (loByte_be16 hi lo).symm⟩
  · rintro ⟨rfl, rfl⟩
    exact be16_hiByte_loByte v

/-- The voltage response match, byte by byte (R172). -/
theorem atCommand_eq_cmdPctV_iff (p : List Byte) :
    atCommand p = Config.cmdPctV ↔ p.getD 12 0 = 0x25 ∧ p.getD 13 0 = 0x56 := be16_eq_iff _ _ _

/-! ### EXTRACT_SWITCH, guard by guard -/

theorem extractSwitchOf_of_short (h : p.length < Config.minIoPayload) :
    extractSwitchOf p = .error .shortPayload := if_pos h

theorem extractSwitchOf_of_other_type (h : Config.minIoPayload ≤ p.length)
    (ht : p.head? ≠ some Config.typeIoSample) : extractSwitchOf p = .error .wrongFrameType := by
  have htype := mt (byteAt_zero_eq_iff _ (Nat.lt_of_lt_of_le (by decide) h)).1 ht
  exact (if_neg (Nat.not_lt.2 h)).trans (if_pos htype)

theorem extractSwitchOf_of_io (h : Config.minIoPayload ≤ p.length)
    (ht : p.head? = some Config.typeIoSample) : extractSwitchOf p = .ok (switchState p) := by
  have htype := (byteAt_zero_eq_iff _ (Nat.lt_of_lt_of_le (by decide) h)).2 ht
  exact (if_neg (Nat.not_lt.2 h)).trans (if_neg (not_not.2 htype))

/-! ### EXTRACT_VOLTAGE, guard by guard -/

theorem extractVoltageOf_of_short (h : p.length < Config.minVoltagePayload) :
    extractVoltageOf p = .error .shortPayload := if_pos h

theorem extractVoltageOf_of_other_type (h : Config.minVoltagePayload ≤ p.length)
    (ht : p.head? ≠ some Config.typeAtResponse) : extractVoltageOf p = .error .wrongFrameType := by
  have htype := mt (byteAt_zero_eq_iff _ (Nat.lt_of_lt_of_le (by decide) h)).1 ht
  exact (if_neg (Nat.not_lt.2 h)).trans (if_pos htype)

/-- Past the first two guards the command code decides (R172). -/
theorem extractVoltageOf_of_at (h : Config.minVoltagePayload ≤ p.length)
    (ht : p.head? = some Config.typeAtResponse) :
    extractVoltageOf p =
      if atCommand p ≠ Config.cmdPctV then .error .notVoltageResponse else .ok (voltage p) := by
  have htype := (byteAt_zero_eq_iff _ (Nat.lt_of_lt_of_le (by decide) h)).2 ht
  exact (if_neg (Nat.not_lt.2 h)).trans (if_neg (not_not.2 htype))

theorem extractVoltageOf_of_other_code (h : Config.minVoltagePayload ≤ p.length)
    (ht : p.head? = some Config.typeAtResponse) (hcmd : atCommand p ≠ Config.cmdPctV) :
    extractVoltageOf p = .error .notVoltageResponse :=
  (extractVoltageOf_of_at h ht).trans (if_pos hcmd)

theorem extractVoltageOf_of_voltage (h : Config.minVoltagePayload ≤ p.length)
    (ht : p.head? = some Config.typeAtResponse) (hcmd : atCommand p = Config.cmdPctV) :
    extractVoltageOf p = .ok (voltage p) :=
  (extractVoltageOf_of_at h ht).trans (if_neg (not_not.2 hcmd))

/-! ### CLASSIFY and the extractors -/

/-- The five records CLASSIFY can give, each with what it says of the payload (R76, R127). -/
theorem classify_cases (p : List Byte) :
    (p.head? = some Config.typeIoSample ∧ Config.minIoPayload ≤ p.length ∧
      classify p = ⟨.ioSample, p.head?, p, switchState p, 0, false, 0⟩) ∨
    (p.head? = some Config.typeAtResponse ∧ Config.minVoltagePayload ≤ p.length ∧
      atCommand p = Config.cmdPctV ∧
      classify p = ⟨.atResponse, p.head?, p, 0, atCommand p, true, voltage p⟩) ∨
    (p.head? = some Config.typeAtResponse ∧ Config.minAtPayload ≤ p.length ∧
      atCommand p ≠ Config.cmdPctV ∧
      classify p = ⟨.atResponse, p.head?, p, 0, atCommand p, false, 0⟩) ∨
    ((p.head? = some Config.typeIoSample ∨ p.head? = some Config.typeAtResponse) ∧
      classify p = shortRecord p) ∨
    (p.head? ≠ some Config.typeIoSample ∧ p.head? ≠ some Config.typeAtResponse ∧
      classify p = otherRecord p) := by
  by_cases hio : p.head? = some Config.typeIoSample
  · rw [classify_of_io hio]
    by_cases hlen : p.length < Config.minIoPayload
    · exact .inr (.inr (.inr (.inl ⟨.inl hio, ioRecord_of_short hlen⟩)))
    · have hlen := Nat.not_lt.1 hlen
      exact .inl ⟨hio, hlen, ioRecord_of_reached hlen⟩
  · by_cases hat : p.head? = some Config.typeAtResponse
    · rw [classify_of_at hat]
      by_cases hlen : p.length < Config.minAtPayload
      · exact .inr (.inr (.inr (.inl ⟨.inr hat, atRecord_of_short hlen⟩)))
      have hlen := Nat.not_lt.1 hlen
      by_cases hcmd : atCommand p = Config.cmdPctV
      · by_cases hv : p.length < Config.minVoltagePayload
        · exact .inr (.inr (.inr (.inl ⟨.inr hat, atRecord_of_short_voltage hlen hv hcmd⟩)))
        · have hv := Nat.not_lt.1 hv
          exact .inr (.inl ⟨hat, hv, hcmd, atRecord_of_voltage hv hcmd⟩)
      · exact .inr (.inr (.inl ⟨hat, hlen, hcmd, atRecord_of_other_code hlen hcmd⟩))
    · exact .inr (.inr (.inr (.inr ⟨hio, hat, classify_of_other hio hat⟩)))

/-- Settles O18: each of the two records that carry a decoded value stands behind its extractor's guards, and
the other three carry none (R174). -/
theorem parserNeverCallsRefusingExtractor : Obligations.ParserNeverCallsRefusingExtractor := by
  intro p
  obtain ⟨ht, hlen, hrec⟩ | ⟨ht, hlen, hcmd, hrec⟩ | ⟨-, -, -, hrec⟩ | ⟨-, hrec⟩ | ⟨-, -, hrec⟩ :=
    classify_cases p
  all_goals rw [hrec]
  · exact ⟨fun _ => extractSwitchOf_of_io hlen ht, nofun⟩
  · exact ⟨nofun, fun _ => extractVoltageOf_of_voltage hlen ht hcmd⟩
  all_goals exact ⟨nofun, nofun⟩

/-! ### The two requests -/

theorem answerRequest_map_of_ok {α : Type} {o : Except RefuseReason α} {x : α} (f : α → Result)
    (hreset : s.resetDone = true) (ho : o = .ok x) :
    answerRequest (o.map f) s = .next (afterAnswer s (f x)) := ho ▸ answerRequest_of_ok (f x) hreset

theorem answerRequest_map_of_error {α : Type} {o : Except RefuseReason α} {r : RefuseReason}
    (f : α → Result) (hreset : s.resetDone = true) (ho : o = .error r) :
    answerRequest (o.map f) s = .next (afterRefusal s r) := ho ▸ refuseRequest_of_resetDone s r hreset

/-- Settles O29: past its guards EXTRACT_SWITCH answers the switch, which is bit 3 of both second bytes
(R170). -/
theorem extractSwitchAnswers : Obligations.ExtractSwitchAnswers := by
  intro s p c d rest hreset hlen ht sw
  have hsw : extractSwitchOf p = .ok sw :=
    (extractSwitchOf_of_io hlen ht).trans (congrArg _ (switchState_eq_ite p))
  exact ⟨answerRequest_map_of_ok Result.byte hreset hsw,
    (step_op_of_ne_build (by decide) _ s rest).trans (answerRequest_map_of_ok Result.byte hreset hsw)⟩

/-- Settles O32: each clause is one guard (R174). -/
theorem extractorGuardsRefuse : Obligations.ExtractorGuardsRefuse := by
  intro s p hreset
  have hswitch {r : RefuseReason} (h : extractSwitchOf p = .error r) :=
    answerRequest_map_of_error Result.byte hreset h
  have hvoltage {r : RefuseReason} (h : extractVoltageOf p = .error r) :=
    answerRequest_map_of_error Result.millivolts hreset h
  exact ⟨fun hlen => hswitch (extractSwitchOf_of_short hlen),
    fun hlen ht => hswitch (extractSwitchOf_of_other_type hlen ht),
    fun hlen => hvoltage (extractVoltageOf_of_short hlen),
    fun hlen ht => hvoltage (extractVoltageOf_of_other_type hlen ht),
    fun hlen ht hcmd =>
      hvoltage (extractVoltageOf_of_other_code hlen ht (mt (atCommand_eq_cmdPctV_iff p).1 hcmd))⟩

/-! ### The voltage's arithmetic -/

/-- The quotient fits its 17 bits (R173). -/
theorem millivoltsOf_toNat (raw : Half) : (millivoltsOf raw).toNat = raw.toNat * 1200 / 1024 := by
  have := raw.isLt
  rw [millivoltsOf, Config.vNum, Config.vDen, BitVec.toNat_ofNat]
  exact Nat.mod_eq_of_lt (by omega)

theorem voltage_toNat (p : List Byte) :
    (voltage p).toNat = ((p.getD 15 0).toNat * 256 + (p.getD 16 0).toNat) * 1200 / 1024 := by
  rw [voltage, millivoltsOf_toNat, atValue, field16, be16_toNat]
  rfl

/-- Settles O30: past its guards EXTRACT_VOLTAGE answers the voltage (R171, R172). -/
theorem extractVoltageAnswers : Obligations.ExtractVoltageAnswers := by
  intro s p c d rest hreset hlen ht hc0 hc1
  have hmv := extractVoltageOf_of_voltage hlen ht ((atCommand_eq_cmdPctV_iff p).2 ⟨hc0, hc1⟩)
  exact ⟨voltage p, voltage_toNat p, answerRequest_map_of_ok Result.millivolts hreset hmv,
    (step_op_of_ne_build (by decide) _ s rest).trans
      (answerRequest_map_of_ok Result.millivolts hreset hmv)⟩

/-- Settles O31: 1200/1024 is 75/64, and the six bits shifted out are the division by 64 (R173). -/
theorem voltageIsShiftOfProduct : Obligations.VoltageIsShiftOfProduct := by
  intro raw
  have hraw := raw.isLt
  have hshift : (raw.toNat * 75) >>> 6 = raw.toNat * 75 / 64 := Nat.shiftRight_eq_div_pow _ 6
  rw [millivoltsOf_toNat, hshift]
  exact ⟨rfl, by omega, by omega, by omega, by decide⟩

end Sys2Proof.Proofs
end

section
/-!
SUPPORT. One iteration of the host's control loop: the duties of each event, and the frames a build request of
the loop writes (R190 to R199; log entry 16).
-/

namespace Sys2Proof.Proofs

open Sys2Proof.Machine Sys2Proof.Statements

variable {s b : State} {y : System} {r : FrameRecord}

/-! ### The block behind the loop -/

/-- Every operation either is `RESET` or runs only after it (R241). -/
theorem SharedMeaning.resetDone_of_next {m : State → StepResult} (hm : SharedMeaning m)
    (h : m s = .next b) : b.resetDone = true := by
  cases hm with
  | reset => cases h; rfl
  | byte x =>
    obtain ⟨hreset, ⟨-, rfl⟩ | ⟨live, -, -, rfl⟩⟩ := (receiveByte_next x s b).1 h
    · exact hreset
    · obtain ⟨hkept, -⟩ := takeByte_keeps x live s.quiet
      exact hkept.trans hreset
  | terminal e why _ =>
    obtain ⟨hreset, ⟨-, rfl⟩ | ⟨-, rfl⟩⟩ := (receiveEnd_next e why s b).1 h <;> exact hreset
  | frame r => obtain ⟨hreset, ⟨-, rfl⟩ | ⟨-, rfl⟩⟩ := (receiveFrame_next r s b).1 h <;> exact hreset
  | refusal r => obtain ⟨hreset, rfl⟩ := (refuseRequest_next r s b).1 h; exact hreset
  | answer o =>
    obtain ⟨hreset, ⟨_, -, rfl⟩ | ⟨_, -, rfl⟩⟩ := (answerRequest_next o s b).1 h <;> exact hreset
  | build c q d =>
    obtain ⟨hreset, ⟨_, -, rfl⟩ | ⟨_, -, rfl⟩⟩ := (requestFrame_next c q d s b).1 h <;> exact hreset

/-- A block that answers is one that has been reset (R241). -/
theorem feedBlock_resetDone {t : Transaction} (h : feedBlock t s = .next b) : b.resetDone = true :=
  (runWord_sharedMeaning (.port t)).resetDone_of_next ((step_cons s t []).symm.trans h)

theorem feedBlock_destAddr64 {t : Transaction} (h : feedBlock t s = .next b) :
    b.destAddr64 = s.destAddr64 := strapNeverChanges { s with inputs := [t] } b h

theorem feedBlock_build {q : List Byte} (c0 c1 : Byte) (d : Bool) (hreset : s.resetDone = true)
    (hq : q.length ≤ 65520) :
    feedBlock (.op 0x3 ⟨q, [c0, c1], d⟩) s =
      .next (afterBuild { s with inputs := [] } (builtFrame s.destAddr64 c0 c1 q d)) :=
  (step_cons s _ []).trans (requestFrame_pair (s := { s with inputs := [] }) c0 c1 d hreset hq)

/-! ### The duties of an event -/

/-- A send of the loop writes one frame and leaves the parser registers (R50, R150). -/
theorem performDuties_send {q : List Byte} (c0 c1 : Byte) (d : Bool) (ds : List LoopDuty)
    (hreset : y.block.resetDone = true) (hq : q.length ≤ 65520) :
    performDuties (.send [c0, c1] q d :: ds) y =
      performDuties ds { y with
        block := afterBuild { y.block with inputs := [] } (builtFrame y.block.destAddr64 c0 c1 q d)
        actions := y.actions ++ [.wrote (builtFrame y.block.destAddr64 c0 c1 q d)] } :=
  performDuties_cons_of_next _ ds y _
    (performDuty_send_of_next _ q d y _ (feedBlock_build c0 c1 d hreset hq))

theorem sameParser_afterBuild (s : State) (f : List Byte) :
    s.sameParser (afterBuild { s with inputs := [] } f) := ⟨rfl, rfl, rfl, rfl, rfl, rfl, rfl⟩

theorem loopDuties_of_tip (hk : r.kind = .ioSample) (hsw : r.sw = 0x08) :
    loopDuties (.frameOk r) = [.send [0x44, 0x30] [0x05] true, .wait, .send [0x44, 0x30] [0x04] true] := by
  simp only [loopDuties, hk, hsw, if_true]
  rfl

theorem loopAfter_of_tip (h : LoopState) (hk : r.kind = .ioSample) (hsw : r.sw = 0x08) :
    loopAfter (.frameOk r) h = { h with tip := h.tip + 1 } := if_pos ⟨hk, hsw⟩

theorem loopDuties_of_no_tip (hk : r.kind = .ioSample) (hsw : r.sw ≠ 0x08) :
    loopDuties (.frameOk r) = [.send [0x25, 0x56] [] false] := by
  simp only [loopDuties, hk, hsw, if_false]
  rfl

/-- Of the validated frames only a tip changes the loop's state (R194 to R196). -/
theorem loopAfter_of_no_tip (h : LoopState) (hno : ¬ (r.kind = .ioSample ∧ r.sw = 0x08)) :
    loopAfter (.frameOk r) h = h := if_neg hno

/-- The latch is cleared by `D0 05`, and re-armed by `D0 04` after the delay (R193). -/
theorem performDuties_of_tip (y : System) (hk : r.kind = .ioSample) (hsw : r.sw = 0x08)
    (hreset : y.block.resetDone = true) :
    ∃ b', y.block.sameParser b' ∧ performDuties (loopDuties (.frameOk r)) y =
      .next { y with
        block := b'
        actions := y.actions ++
          [.wrote (builtFrame y.block.destAddr64 0x44 0x30 [0x05] true), .waited y.latchDelay,
            .wrote (builtFrame y.block.destAddr64 0x44 0x30 [0x04] true)] } := by
  refine ⟨_, sameParser_afterBuild y.block (builtFrame y.block.destAddr64 0x44 0x30 [0x04] true), ?_⟩
  rw [loopDuties_of_tip hk hsw, performDuties_send,
    performDuties_cons_of_next _ _ _ _ (performDuty_wait _), performDuties_send, performDuties_nil]
  · simp only [List.append_assoc, List.cons_append, List.nil_append]
    rfl
  exacts [hreset, by decide, hreset, by decide]

/-- Without a tip the voltage is requested (R194). -/
theorem performDuties_of_no_tip (y : System) (hk : r.kind = .ioSample) (hsw : r.sw ≠ 0x08)
    (hreset : y.block.resetDone = true) :
    ∃ b', y.block.sameParser b' ∧ performDuties (loopDuties (.frameOk r)) y =
      .next { y with
        block := b'
        actions := y.actions ++ [.wrote (builtFrame y.block.destAddr64 0x25 0x56 [] false)] } :=
  ⟨_, sameParser_afterBuild y.block _, by
    rw [loopDuties_of_no_tip hk hsw, performDuties_send _ _ _ _ hreset (by decide), performDuties_nil]⟩

/-- Settles O57: the loop counts the tip, then does the three duties of it, with the strap the block had
before the symbol (R193). -/
theorem tipIsCountedAndLatchReset : Obligations.TipIsCountedAndLatchReset := by
  intro y sym stream b r hm hs hf he hk hsw
  rw [systemStep_of_event y sym stream b _ hm hs hf he, loopAfter_of_tip y.loop hk hsw,
    ← feedBlock_destAddr64 hf]
  exact performDuties_of_tip
    { y with block := b, stream := stream, loop := { y.loop with tip := y.loop.tip + 1 } } hk hsw
    (feedBlock_resetDone hf)

/-- Settles O58: the one duty is the `%V` request (R194). -/
theorem noTipRequestsVoltage : Obligations.NoTipRequestsVoltage := by
  intro y sym stream b r hm hs hf he hk hsw
  have hno : r.sw ≠ 0x08 := by rw [hsw]; decide
  rw [systemStep_of_event y sym stream b _ hm hs hf he,
    loopAfter_of_no_tip y.loop (fun htip => hno htip.2), ← feedBlock_destAddr64 hf]
  exact performDuties_of_no_tip { y with block := b, stream := stream } hk hno (feedBlock_resetDone hf)

/-- The only duty of a frame that is no sample is to surface the voltage of a `%V` response (R195, R196). -/
theorem performDuties_of_no_sample (y : System) (hk : r.kind ≠ .ioSample) :
    performDuties (loopDuties (.frameOk r)) y =
      .next { y with
        actions := y.actions ++
          if r.kind = .atResponse ∧ r.cmd = 0x2556 ∧ r.vvalid = true then [.surfaced r.mv] else [] } := by
  cases hkind : r.kind with
  | ioSample => exact absurd hkind hk
  | other | short => simp [loopDuties, hkind]
  | atResponse =>
    simp only [loopDuties, hkind, true_and]
    split_ifs
    · rfl
    · simp

/-- Settles O59: the duties of each event in turn; none of them sends (R191, R192, R195, R196, R198). -/
theorem otherEventsWriteNothing : Obligations.OtherEventsWriteNothing := by
  intro y sym stream b e hm hs hf he hno surfaced mode
  rw [systemStep_of_event y sym stream b e hm hs hf he]
  cases e with
  | frameOk r =>
    have hk := hno r rfl
    rw [performDuties_of_no_sample _ hk, loopAfter_of_no_tip y.loop (fun htip => hk htip.1)]
    simp only [mode, ← hm]
    rfl
  | malformedFrame _ | badChecksum _ | readTimeout | transportFault =>
    simp [loopDuties, loopAfter, surfaced, mode, ← hm]

end Sys2Proof.Proofs
end

section
/-!
SUPPORT. Several iterations of the control loop: while the block emits nothing the loop only feeds it, so it
follows the block's own run (R197), up to the event at the end of a frame.
-/

namespace Sys2Proof.Proofs

open Sys2Proof.Machine Sys2Proof.Statements

variable {s : State}

theorem systemRun_succ_of_next {y z : System} (k : Nat) (h : systemStep y = .next z) :
    systemRun (k + 1) y = systemRun k z := by
  simp only [systemRun, h]

theorem systemRun_add_of_next {y z : System} (m k : Nat) (h : systemRun m y = .next z) :
    systemRun (m + k) y = systemRun k z := by
  induction m generalizing y with
  | zero => cases h; rw [Nat.zero_add]
  | succ m ih =>
    cases hstep : systemStep y with
    | next u =>
      rw [Nat.add_right_comm, systemRun_succ_of_next _ hstep]
      exact ih ((systemRun_succ_of_next m hstep).symm.trans h)
    | fault r | refused r => simp [systemRun, hstep] at h

/-- The loop feeds the block one byte at a time, the block alone takes it from its queue; either way the byte
does the same (log entry 16). -/
theorem feedBlock_rxByteSym_of_step {v : State} (b : Byte) (ts : List Transaction)
    (h : step { s with inputs := .rx (rxByteSym b) :: ts } = .next v) :
    feedBlock (.rx (rxByteSym b)) s = .next { v with inputs := [] } ∧ v.inputs = ts := by
  rw [step_rxByteSym, receiveByte_next] at h
  rw [feedBlock, step_rxByteSym]
  obtain ⟨hreset, ⟨hst, rfl⟩ | ⟨live, hl, hst, rfl⟩⟩ := h
  · exact ⟨receiveByte_of_stopped (s := { s with inputs := [] }) b hreset hst, rfl⟩
  · have htake := takeByte_setInputs b live s.quiet
    refine ⟨(receiveByte_of_live (s := { s with inputs := [] }) b hreset hst hl).trans ?_, ?_⟩
    · exact congrArg _ ((htake []).trans (congrArg (fun u : State => { u with inputs := [] }) (htake ts)).symm)
    · exact congrArg State.inputs (htake ts)

/-- Bytes in which the block emits nothing: the loop does nothing but feed them, by induction on the bytes
(R197). -/
theorem systemRun_of_silent_run {y : System} (bytes : List Byte) (stream : List (BitVec 10))
    (ts : List Transaction) (hm : y.loop.mode = .running)
    (hs : y.stream = bytes.map rxByteSym ++ stream)
    (hsilent : ∀ n ≤ bytes.length, ∃ v,
      run n { y.block with inputs := rxStream bytes ++ ts } = .next v ∧ (n ≠ 0 → v.evt = none)) :
    ∃ b, systemRun bytes.length y = .next { y with block := b, stream := stream } ∧
      run bytes.length { y.block with inputs := rxStream bytes ++ ts } = .next { b with inputs := ts } := by
  induction bytes generalizing y with
  | nil => exact ⟨y.block, congrArg _ (by rw [← hs.trans (List.nil_append stream)]), rfl⟩
  | cons x bytes ih =>
    obtain ⟨v, hrun, hv⟩ := hsilent 1 (Nat.le_add_left 1 _)
    rw [run_one] at hrun
    obtain ⟨hfeed, hinputs⟩ := feedBlock_rxByteSym_of_step x (rxStream bytes ++ ts) hrun
    have hstep := systemStep_of_no_event y _ _ _ hm hs hfeed (hv Nat.one_ne_zero)
    have hqueue : ({ v with inputs := rxStream bytes ++ ts } : State) = v := by rw [← hinputs]
    have hgoOn : ∀ n, run (n + 1) { y.block with inputs := rxStream (x :: bytes) ++ ts } =
        run n { v with inputs := rxStream bytes ++ ts } := fun n => by
      rw [hqueue]
      exact run_succ_of_next n _ _ hrun
    have hrest : ∀ n ≤ bytes.length, ∃ u,
        run n { v with inputs := rxStream bytes ++ ts } = .next u ∧ (n ≠ 0 → u.evt = none) := fun n hn => by
      obtain ⟨u, hu, hevt⟩ := hsilent (n + 1) (Nat.succ_le_succ hn)
      exact ⟨u, (hgoOn n).symm.trans hu, fun _ => hevt (Nat.succ_ne_zero n)⟩
    obtain ⟨b, hsys, hblock⟩ := ih
      (y := { y with block := { v with inputs := [] }, stream := bytes.map rxByteSym ++ stream }) hm rfl hrest
    exact ⟨b, (systemRun_succ_of_next _ hstep).trans hsys, (hgoOn _).trans hblock⟩

/-- The loop feeds the whole frame of a payload between frames: up to the checksum byte nothing but the block
changes, and on that byte the block reports the payload's record (R126, R127, R197). -/
theorem systemRun_wireFrame {y : System} {p : List Byte} (stream : List (BitVec 10))
    (hm : y.loop.mode = .running) (h : y.block.sound) (hst : y.block.st = 0) (hp : p.length ≤ maxPayload)
    (hs : y.stream = (wireFrame p).map rxByteSym ++ stream) :
    ∃ b, systemRun (p.length + 3) y =
        .next { y with block := b, stream := rxByteSym (checksumOf p) :: stream } ∧
      feedBlock (.rx (rxByteSym (checksumOf p))) b =
        .next (afterFrame { y.block with inputs := [] } (classify p)) := by
  obtain ⟨start, hframe⟩ : ∃ start, wireFrame p = start ++ [checksumOf p] := ⟨_, rfl⟩
  have hstart : start.length = p.length + 3 := by
    have hlen := congrArg List.length hframe
    rw [wireFrame_length, List.length_append, List.length_singleton] at hlen
    omega
  have hqueue : rxStream (wireFrame p) ++ [] = rxStream start ++ rxStream [checksumOf p] := by
    rw [List.append_nil, hframe, rxStream, List.map_append]
  have hsilent := fun n (hn : n ≤ start.length) =>
    run_wireFrame_silent [] n (resetDone_of_sound h) hst hp (by rw [wireFrame_length]; omega)
  have hwhole := run_wireFrame [] h hst hp
  rw [hqueue] at hsilent hwhole
  obtain ⟨b, hsys, hblock⟩ := systemRun_of_silent_run start (rxByteSym (checksumOf p) :: stream) _ hm
    (by rw [hs, hframe, List.map_append, List.append_assoc]; rfl) hsilent
  refine ⟨b, hstart ▸ hsys, ?_⟩
  rw [hframe, List.length_append, List.length_singleton, run_add_of_next _ _ _ _ hblock, run_one] at hwhole
  exact hwhole

/-- Soundness looks at the parser registers alone (R31). -/
theorem sound_of_sameParser {t : State} (h : s.sound) (ht : s.sameParser t) : t.sound := by
  obtain ⟨hreset, hst, hlen, hcnt, hsum, hbuf, hstop⟩ := ht
  simpa only [State.sound, State.legalSt, State.registersAgree, State.headerAgrees, State.stopAgrees,
    State.countersAgree, hreset, hst, hlen, hcnt, hsum, hbuf, hstop] using h

/-- A sample with bit 3 set in mask and sample is reported as a tip (R127, R170). -/
theorem classify_of_tip {p : List Byte} (ht : p.head? = some Config.typeIoSample)
    (hlen : Config.minIoPayload ≤ p.length) (hmask : (p.getD 14 0).getLsbD 3 = true)
    (hsample : (p.getD 17 0).getLsbD 3 = true) :
    (classify p).kind = .ioSample ∧ (classify p).sw = 0x08 := by
  rw [classify_of_io ht, ioRecord_of_reached hlen, switchState_eq_ite, byteAt, byteAt, hmask, hsample]
  exact ⟨rfl, rfl⟩

/-- Settles O60: all bytes of the frame but the last are fed silently, and on the last one the block reports a
tip (R126, R127, R193). -/
theorem sampleFrameWithTipEndToEnd : Obligations.SampleFrameWithTipEndToEnd := by
  intro y rest stream p hm h hst hmin hmax hmask hsample hs
  obtain ⟨b, hsys, hfeed⟩ := systemRun_wireFrame stream hm h hst hmax hs
  obtain ⟨hkind, hsw⟩ := classify_of_tip (p := p) rfl hmin hmask hsample
  obtain ⟨b', hparser, hstep⟩ := tipIsCountedAndLatchReset
    { y with block := b, stream := rxByteSym (checksumOf p) :: stream } _ stream _ _ hm rfl hfeed rfl hkind hsw
  have hend : (afterFrame { y.block with inputs := [] } (classify p)).sound := by
    rw [afterFrame_of_sound (s := { y.block with inputs := [] }) _ h hst]
    exact h
  have hsound := sound_of_sameParser hend hparser
  obtain ⟨-, hst', -⟩ := hparser
  refine ⟨b', hsound, hst', ?_⟩
  rw [systemRun_add_of_next (p.length + 3) 1 hsys, systemRun_succ_of_next 0 hstep,
    ← feedBlock_destAddr64 hfeed]
  rfl

end Sys2Proof.Proofs
end

section
/-!
SUPPORT. What one transaction can leave of the state it meets, and from that the rules of the events and of
the refusals (R211, R212, R214, R225).
-/

namespace Sys2Proof.Proofs

open Sys2Proof.Machine Sys2Proof.Statements

variable {s t : State} {tr : Transaction}

/-! ### What one transaction can leave -/

/-- What a transaction can leave of the state `s` it meets, with nothing on the output ports yet: the port it
arrives on decides which of these it can be (R26, R120 to R130, R225, R240). -/
inductive PortEffect (s : State) : Transaction → State → Prop where
  | reset : PortEffect s (.rst 1) s.restart
  | ignored (sym : BitVec 10) (hst : s.st = stCode .stopped) : PortEffect s (.rx sym) s
  | byte (b : Byte) (live : ParserState) (hl : live ≠ .stopped) (hst : s.st = stCode live) :
      PortEffect s (.rx (rxByteSym b)) (s.takeByte b live)
  | timeout (hl : s.st ≠ stCode .stopped) :
      PortEffect s (.rx rxTimeoutSym) (s.stopReceive .readTimeout stopTimeout)
  | fault (hl : s.st ≠ stCode .stopped) :
      PortEffect s (.rx rxFaultSym) (s.stopReceive .transportFault stopFault)
  | refused (tr : Transaction) (r : RefuseReason) (htr : tr ≠ .rst 1) : PortEffect s tr (s.refuse r)
  | answered (code : BitVec 4) (a : OpArgs) (x : Result) (hx : ∀ r, x ≠ .refusal r) :
      PortEffect s (.op code a) (s.answer x)
  | built (code : BitVec 4) (a : OpArgs) (f : List Byte) :
      PortEffect s (.op code a) ((s.answer (.bytes f)).transmit f)

theorem receiveByte_portEffect {b : Byte} (h : receiveByte b s = .next t) :
    PortEffect s.quiet (.rx (rxByteSym b)) t := by
  obtain ⟨-, ⟨hst, rfl⟩ | ⟨live, hl, hst, rfl⟩⟩ := (receiveByte_next b s t).1 h
  · exact .ignored _ hst
  · exact .byte b live hl hst

/-- A terminal symbol meets `STOPPED` or ends a live receive side (R128 to R130). -/
theorem receiveEnd_cases {e : Event} {why : BitVec 2} (h : receiveEnd e why s = .next t) :
    (s.st = stCode .stopped ∧ t = s.quiet) ∨
      (s.st ≠ stCode .stopped ∧ t = s.quiet.stopReceive e why) := by
  obtain ⟨-, hstopped | ⟨⟨live, hl, hst⟩, ht⟩⟩ := (receiveEnd_next e why s t).1 h
  · exact .inl hstopped
  · refine .inr ⟨fun hstopped => hl ?_, ht⟩
    simpa [hst] using congrArg parserState? hstopped

theorem refuseRequest_portEffect {r : RefuseReason} (htr : tr ≠ .rst 1)
    (h : refuseRequest r s = .next t) : PortEffect s.quiet tr t := by
  obtain ⟨-, rfl⟩ := (refuseRequest_next r s t).1 h
  exact .refused tr r htr

/-- A request whose results `f y` are no refusals refuses only where its operand check does (R71, R225). -/
theorem answerRequest_map_portEffect {α : Type} {o : Except RefuseReason α} {f : α → Result}
    (code : BitVec 4) (a : OpArgs) (hf : ∀ y r, f y ≠ .refusal r)
    (h : answerRequest (o.map f) s = .next t) : PortEffect s.quiet (.op code a) t := by
  cases o with
  | error r => exact refuseRequest_portEffect nofun h
  | ok y =>
    obtain ⟨-, ⟨_, ho, rfl⟩ | ⟨_, ho, -⟩⟩ := (answerRequest_next (.ok (f y)) s t).1 h
    all_goals cases ho
    exact .answered code a _ (hf y)

theorem requestFrame_portEffect {c q : List Byte} {d : Bool} (code : BitVec 4) (a : OpArgs)
    (h : requestFrame c q d s = .next t) : PortEffect s.quiet (.op code a) t := by
  obtain ⟨-, ⟨f, -, rfl⟩ | ⟨r, -, rfl⟩⟩ := (requestFrame_next c q d s t).1 h
  · exact .built code a f
  · exact .refused _ r nofun

/-! ### Port by port -/

theorem runWord_rx_portEffect (sym : BitVec 10) (h : runWord (.port (.rx sym)) s = .next t) :
    PortEffect s.quiet (.rx sym) t := by
  rw [runWord_of_ok _ _ s rfl] at h
  cases hsym : reservedRx sym with
  | true =>
    rw [decodeRx_of_reserved hsym] at h
    exact refuseRequest_portEffect nofun h
  | false =>
    obtain ⟨b, rfl⟩ | rfl | rfl := reservedRx_eq_false_cases sym hsym
    · rw [decodeRx_rxByteSym] at h
      exact receiveByte_portEffect h
    · obtain ⟨hst, rfl⟩ | ⟨hl, rfl⟩ := receiveEnd_cases h
      · exact .ignored _ hst
      · exact .timeout hl
    · rw [decodeRx_fault] at h
      obtain ⟨hst, rfl⟩ | ⟨hl, rfl⟩ := receiveEnd_cases h
      · exact .ignored _ hst
      · exact .fault hl

theorem exec_decodeOp_portEffect (code : BitVec 4) (a : OpArgs)
    (h : exec (decodeOp code a) s = .next t) : PortEffect s.quiet (.op code a) t := by
  unfold decodeOp at h
  split at h
  · exact refuseRequest_portEffect nofun h
  · exact answerRequest_map_portEffect (o := .ok (checksumOf a.bytes)) (f := .byte) code a nofun h
  · exact answerRequest_map_portEffect (o := .ok (checksumHolds a.bytes)) (f := .bit) code a nofun h
  · exact requestFrame_portEffect code a h
  · exact answerRequest_map_portEffect (f := .byte) code a nofun h
  · exact answerRequest_map_portEffect (f := .millivolts) code a nofun h
  all_goals exact refuseRequest_portEffect nofun h

theorem runWord_rst_portEffect (bit : BitVec 1) (h : runWord (.port (.rst bit)) s = .next t) :
    PortEffect s.quiet (.rst bit) t := by
  by_cases hbit : bit = 1
  · subst hbit
    cases h
    exact .reset
  · have hdec : decode (.port (.rst bit)) = .error .reservedRst := if_neg hbit
    rw [runWord_of_error _ _ s hdec] at h
    exact refuseRequest_portEffect (fun htr => hbit (by injection htr)) h

theorem runWord_port_portEffect (h : runWord (.port tr) s = .next t) : PortEffect s.quiet tr t := by
  cases tr with
  | rx sym => exact runWord_rx_portEffect sym h
  | op code a => exact exec_decodeOp_portEffect code a ((runWord_of_ok _ _ s rfl).symm.trans h)
  | rst bit => exact runWord_rst_portEffect bit h

/-- A step waits, or has one of the effects of the transaction that comes next. -/
theorem step_portEffect (h : step s = .next t) :
    (s.inputs = [] ∧ t = s.quiet) ∨
      ∃ tr, s.inputs.head? = some tr ∧ PortEffect s.popInput.quiet tr t := by
  cases hin : s.inputs with
  | nil =>
    cases (step_of_nil s hin).symm.trans h
    exact .inl ⟨rfl, rfl⟩
  | cons tr rest =>
    have hs : s = { s with inputs := tr :: rest } := by rw [← hin]
    rw [hs, step_cons] at h
    rw [popInput_of_cons s tr rest hin]
    exact .inr ⟨tr, rfl, runWord_port_portEffect h⟩

/-! ### Where an event comes from -/

/-- The causes of an event, each with the event and the state it leaves (R210 to R214): a byte that starts no
frame, the byte that ends one, and the two symbols that end the receive side. -/
inductive EventCause (s : State) : Transaction → Event → State → Prop where
  | noise (b : Byte) (hst : s.st = 0) (hb : b ≠ Config.delim) :
      EventCause s (.rx (rxByteSym b)) (.malformedFrame b) (s.malformed b)
  | accepted (b : Byte) (hst : s.st = 3) (hlast : s.moreBody = false) (hverdict : s.verdict b = true) :
      EventCause s (.rx (rxByteSym b)) (.frameOk (classify (s.completedPayload b)))
        (s.acceptFrame (classify (s.completedPayload b)))
  | rejected (b : Byte) (hst : s.st = 3) (hlast : s.moreBody = false) (hverdict : s.verdict b = false) :
      EventCause s (.rx (rxByteSym b)) (.badChecksum (s.buf ++ [b]))
        (s.awaitDelim.emit (.badChecksum (s.buf ++ [b])))
  | timeout : EventCause s (.rx rxTimeoutSym) .readTimeout (s.stopReceive .readTimeout stopTimeout)
  | fault : EventCause s (.rx rxFaultSym) .transportFault (s.stopReceive .transportFault stopFault)

/-- In a live state a byte emits an event where no frame begins and where one ends (R122, R126). -/
theorem takeByte_eventCause {b : Byte} {live : ParserState} {e : Event} (hl : live ≠ .stopped)
    (hst : s.st = stCode live) (hquiet : s.evt = none) (he : (s.takeByte b live).evt = some e) :
    EventCause s (.rx (rxByteSym b)) e (s.takeByte b live) := by
  obtain ⟨rfl, -, ht⟩ | ⟨rfl, hb, ht⟩ | ⟨rfl, ht⟩ | ⟨rfl, ht⟩ | ⟨rfl, -, ht⟩ | ⟨rfl, hlast, ht⟩ :=
    takeByte_cases b live s hl
  all_goals rw [ht] at he ⊢
  case inr.inl =>
    cases he
    exact .noise b hst hb
  case inr.inr.inr.inr.inr =>
    obtain ⟨hverdict, hf⟩ | ⟨hverdict, hf⟩ := finishFrame_cases b s
    all_goals
      rw [hf] at he ⊢
      cases he
    · exact .accepted b hst hlast hverdict
    · exact .rejected b hst hlast hverdict
  all_goals simp [hquiet] at he

theorem PortEffect.eventCause {e : Event} (h : PortEffect s tr t) (hquiet : s.evt = none)
    (he : t.evt = some e) : EventCause s tr e t := by
  cases h with
  | byte b live hl hst => exact takeByte_eventCause hl hst hquiet he
  | timeout => cases he; exact .timeout
  | fault => cases he; exact .fault
  | reset | ignored | refused | answered | built => simp [hquiet] at he

/-- No event is latched, so the event on `evt` is of the transaction that the step consumed (R217). -/
theorem step_eventCause {e : Event} (h : step s = .next t) (he : t.evt = some e) :
    ∃ tr, s.inputs.head? = some tr ∧ EventCause s.popInput.quiet tr e t := by
  obtain ⟨-, rfl⟩ | ⟨tr, hhead, heffect⟩ := step_portEffect h
  · cases he
  · exact ⟨tr, hhead, heffect.eventCause rfl he⟩

/-- Settles O50: `MALFORMED_FRAME` has one cause, which writes no parser register (R122, R211). -/
theorem malformedOnlyAtFrameStart : Obligations.MalformedOnlyAtFrameStart := by
  intro s t b h he
  obtain ⟨tr, hhead, hcause⟩ := step_eventCause h he
  cases hcause with
  | noise _ hst hb => exact ⟨hst, hb, hhead, by simp [State.sameParser]⟩

/-- In a sound state the frame that a failing byte ends is the buffer, header and all, with that byte: its
length field is `len`, and the running sum fails as VERIFY_CHECKSUM does (R31, R126, R133). -/
theorem rejectedFrame_of_sound {b : Byte} (h : s.sound) (hst : s.st = 3) (hlast : s.moreBody = false)
    (hverdict : s.verdict b = false) :
    s.cnt.toNat = s.len.toNat ∧ checksumHolds (s.buf ++ [b]) = false ∧
      (s.buf ++ [b]).length = s.len.toNat + 4 ∧
      (s.buf ++ [b]).take 3 = [0x7E, hiByte s.len, loByte s.len] := by
  obtain ⟨-, -, hlen, hle, hsum, htake⟩ := (sound_iff_of_body hst).1 h
  have hheader : 3 ≤ s.buf.length := hlen ▸ Nat.le_add_right 3 _
  have hnot : ¬ s.cnt.toNat + 1 < s.len.toNat + 1 := (moreBody_eq_false_iff s).1 hlast
  have hfull : s.cnt.toNat = s.len.toNat := by omega
  refine ⟨hfull, ?_, ?_, ?_⟩
  · rw [← verdict_eq_checksumHolds b hheader hsum, hverdict]
  · simp only [List.length_append, List.length_singleton]
    omega
  · rw [List.take_append_of_le_length hheader, htake]

/-- Settles O51: `BAD_CHECKSUM` has one cause, the last body byte of a frame that does not verify (R212). -/
theorem badChecksumOnlyAtFrameEnd : Obligations.BadChecksumOnlyAtFrameEnd := by
  intro s t f hs h he
  obtain ⟨tr, hhead, hcause⟩ := step_eventCause h he
  cases hcause with
  | rejected b hst hlast hverdict =>
    obtain ⟨hfull, hfails, hlen, htake⟩ :=
      rejectedFrame_of_sound (sound_quiet.2 (sound_popInput.2 hs)) hst hlast hverdict
    exact ⟨hst, hfull, hfails, hlen, htake, b, hhead, rfl⟩

/-! ### `STOPPED` -/

theorem PortEffect.of_stopped (h : PortEffect s tr t) (hquiet : s.evt = none)
    (hst : s.st = stCode .stopped) (htr : tr ≠ .rst 1) :
    t.st = stCode .stopped ∧ t.stop = s.stop ∧ t.evt = none := by
  cases h with
  | reset => exact absurd rfl htr
  | byte b live hl hlive =>
    exact absurd (by simpa using congrArg parserState? (hlive.symm.trans hst)) hl
  | timeout hl | fault hl => exact absurd hst hl
  | ignored | refused | answered | built => exact ⟨hst, rfl, hquiet⟩

/-- Settles O52: each terminal event has one cause, and of a step's effects on `STOPPED` only `RESET` writes
`st` or `stop` or emits an event (R130, R214). -/
theorem terminalEventsStopUntilReset : Obligations.TerminalEventsStopUntilReset := by
  intro s t h
  refine ⟨fun he => ?_, fun he => ?_, fun hst hnoreset => ?_⟩
  · obtain ⟨tr, -, hcause⟩ := step_eventCause h he
    cases hcause with
    | timeout => exact ⟨rfl, rfl⟩
  · obtain ⟨tr, -, hcause⟩ := step_eventCause h he
    cases hcause with
    | fault => exact ⟨rfl, rfl⟩
  · obtain ⟨-, rfl⟩ | ⟨tr, hhead, heffect⟩ := step_portEffect h
    · exact ⟨hst, rfl, rfl⟩
    · exact heffect.of_stopped rfl hst fun htr => hnoreset (htr ▸ hhead)

/-! ### Refusals -/

/-- A result is a refusal only where the request was refused: no request answers one (R225). -/
theorem PortEffect.eq_refuse {r : RefuseReason} (h : PortEffect s tr t) (hquiet : s.res = none)
    (hres : t.res = some (.refusal r)) : t = s.refuse r := by
  cases h with
  | refused _ r' => cases hres; rfl
  | answered code a x hx => exact absurd (Option.some.inj hres) (hx r)
  | byte b live =>
    obtain ⟨-, -, -, -, -, hkept, -⟩ := takeByte_keeps b live s
    simp [hkept, hquiet] at hres
  | built => cases hres
  | reset | ignored | timeout | fault => simp [hquiet] at hres

/-- Settles O53: the state of a refusal is `afterRefusal` with the transaction consumed (R225). -/
theorem refusalOnlyAnswers : Obligations.RefusalOnlyAnswers := by
  intro s t r h hres
  obtain ⟨-, rfl⟩ | ⟨tr, -, heffect⟩ := step_portEffect h
  · cases hres
  · exact heffect.eq_refuse rfl hres

end Sys2Proof.Proofs
end

section
/-!
SUPPORT. `RESET` from every state (R240), and the fault of every other instruction and transaction before the
first one (R241).
-/

namespace Sys2Proof.Proofs

open Sys2Proof.Machine

/-! ### Before the first `RESET` -/

/-- The meaning `m` is the fault `NotReset` in every state that has not been reset (R241). -/
def FaultsUnreset (m : State → StepResult) : Prop :=
  ∀ s : State, s.resetDone = false → m s = .fault .notReset

theorem afterReset_faultsUnreset (k : State → StepResult) : FaultsUnreset fun s => afterReset s k :=
  fun s hunreset => afterReset_of_not_resetDone s k hunreset

theorem receiveByte_faultsUnreset (b : Byte) : FaultsUnreset (receiveByte b) :=
  afterReset_faultsUnreset _

theorem receiveEnd_faultsUnreset (e : Event) (why : BitVec 2) : FaultsUnreset (receiveEnd e why) :=
  afterReset_faultsUnreset _

theorem receiveFrame_faultsUnreset (r : FrameRecord) : FaultsUnreset (receiveFrame r) :=
  afterReset_faultsUnreset _

theorem refuseRequest_faultsUnreset (r : RefuseReason) : FaultsUnreset (refuseRequest r) :=
  afterReset_faultsUnreset _

/-- The operand check of a request decides between an answer and a refusal, both behind the guard. -/
theorem answerRequest_faultsUnreset (o : Except RefuseReason Result) : FaultsUnreset (answerRequest o) := by
  cases o with
  | ok x => exact afterReset_faultsUnreset fun s => .next (s.answer x)
  | error r => exact refuseRequest_faultsUnreset r

/-- The builder's own check comes first, and both of its outcomes stand behind the guard. -/
theorem requestFrame_faultsUnreset (c q : List Byte) (d : Bool) : FaultsUnreset (requestFrame c q d) := by
  intro s hunreset
  cases hbuild : buildFrame s.destAddr64 c q d with
  | ok f => simp only [requestFrame, hbuild, afterReset_of_not_resetDone s _ hunreset]
  | error r => simp only [requestFrame, hbuild, refuseRequest_faultsUnreset r s hunreset]

theorem exec_faultsUnreset {i : Instr} (hi : i ≠ .reset) : FaultsUnreset (exec i) := by
  cases i with
  | reset => exact absurd rfl hi
  | rxByte b | nonDelimiter b => exact receiveByte_faultsUnreset b
  | delimiter => exact receiveByte_faultsUnreset Config.delim
  | rxTimeout | rxFault => exact receiveEnd_faultsUnreset _ _
  | rxReserved _ | opReserved0 | opReserved67 _ | opReserved8F _ => exact refuseRequest_faultsUnreset _
  | computeChecksum p => exact answerRequest_faultsUnreset (.ok (.byte (checksumOf p)))
  | verifyChecksum f => exact answerRequest_faultsUnreset (.ok (.bit (checksumHolds f)))
  | extractSwitch _ | extractVoltage _ => exact answerRequest_faultsUnreset _
  | buildRemoteAt _ q d | atCmdD0 q d | atCmdPctV q d => exact requestFrame_faultsUnreset _ q d
  | typeRemoteAtCommand _ | typeIoDataSample _ | typeAtCommandResponse _ | typeUnrecognized _ =>
    exact receiveFrame_faultsUnreset _

/-! ### The one transaction that is `RESET` -/

theorem decodeRx_ne_reset (sym : BitVec 10) : decodeRx sym ≠ .reset := by
  unfold decodeRx
  split
  · nofun
  · split_ifs <;> nofun

theorem decodeOp_ne_reset (code : BitVec 4) (a : OpArgs) : decodeOp code a ≠ .reset := by
  unfold decodeOp
  split <;> nofun

theorem decode_port_eq_reset_iff (t : Transaction) : decode (.port t) = .ok .reset ↔ t = .rst 1 := by
  cases t with
  | rx sym => simp [decode, decodeRx_ne_reset]
  | op code a => simp [decode, decodeOp_ne_reset]
  | rst bit => simp [decode]

/-- A transaction that decodes to no instruction is a refused one, and that too stands behind the guard
(log entry 11). -/
theorem runWord_port_faultsUnreset {t : Transaction} (ht : t ≠ .rst 1) :
    FaultsUnreset (runWord (.port t)) := by
  intro s hunreset
  cases hdec : decode (.port t) with
  | ok i =>
    have hi : i ≠ .reset := fun h => ht ((decode_port_eq_reset_iff t).1 (h ▸ hdec))
    exact (runWord_of_ok _ i s hdec).trans (exec_faultsUnreset hi s hunreset)
  | error r => exact (runWord_of_error _ r s hdec).trans (refuseRequest_faultsUnreset r s hunreset)

/-- Settles O34: of all meanings only that of `RESET` has no guard, and only `rst = 1` runs it (R241; log
entry 11). -/
theorem unresetStepsFault : Obligations.UnresetStepsFault :=
  fun s hunreset =>
    ⟨fun _ hi => exec_faultsUnreset hi s hunreset,
      fun t rest ht => (step_cons s t rest).trans (runWord_port_faultsUnreset ht _ hunreset)⟩

/-! ### `RESET` itself -/

theorem step_rst (s : State) (rest : List Transaction) :
    step { s with inputs := .rst 1 :: rest } = exec .reset { s with inputs := rest } :=
  (step_cons s _ rest).trans (runWord_of_ok _ _ _ ((decode_port_eq_reset_iff _).2 rfl))

/-- Settles O33: `RESET` has no guard and reads no register, and leaves the queue alone (R240; log
entry 18). -/
theorem resetRestoresParser : Obligations.ResetRestoresParser :=
  fun s rest => ⟨rfl, step_rst s rest⟩

end Sys2Proof.Proofs
end

section
/-!
SUPPORT. The decoders against the encoders: the words of the six formats (R64, R68, R71, R72), the frame on the
wire (R60, R61, R74), and the fixed bits of the opcode table's rows.
-/

namespace Sys2Proof.Proofs

open Sys2Proof.Machine

/-! ### The words of the table -/

theorem decodeOp_reserved67 (lo : BitVec 1) (a : OpArgs) :
    decodeOp (0x3#3 ++ lo) a = .opReserved67 lo := by
  have hlo : lo = 0 ∨ lo = 1 := by revert lo; decide
  obtain rfl | rfl := hlo <;> rfl

/-- The codes `0x8` to `0xF` are the last arm of `decodeOp`, and keep their low three bits (R72). -/
theorem decodeOp_reserved8F (lo : BitVec 3) (a : OpArgs) :
    decodeOp (0x1#1 ++ lo) a = .opReserved8F lo := by
  have hcode : 8 ≤ (0x1#1 ++ lo).toNat := by revert lo; decide
  have hlow : (0x1#1 ++ lo).extractLsb' 0 3 = lo := BitVec.extractLsb'_append_eq_right
  unfold decodeOp
  split
  case h_9 => rw [hlow]
  all_goals omega

theorem wellFormed_typeUnrecognized_iff (p : List Byte) :
    (Instr.typeUnrecognized p).wellFormed = true ↔
      p.length ≤ maxPayload ∧ p.head? ≠ some Config.typeRemoteAt ∧
        p.head? ≠ some Config.typeIoSample ∧ p.head? ≠ some Config.typeAtResponse := by
  simp [Instr.wellFormed, and_assoc]

/-- A type byte with no row of its own, and the payload that has no type byte (R64, R73). -/
theorem decodeType_of_unrecognized {p : List Byte} (h17 : p.head? ≠ some Config.typeRemoteAt)
    (h92 : p.head? ≠ some Config.typeIoSample) (h97 : p.head? ≠ some Config.typeAtResponse) :
    decodeType p = .typeUnrecognized p := by
  cases p with
  | nil => rfl
  | cons t rest =>
    simp only [List.head?_cons, ne_eq, Option.some.injEq] at h17 h92 h97
    rw [decodeType_cons, if_neg h17, if_neg h92, if_neg h97]

/-- Settles O39: row by row. Well-formedness is needed only where one row's words lie among another's: the
reserved symbols, the bytes that are no delimiter, the types with no row of their own. -/
theorem decodeInvertsEncode : Obligations.DecodeInvertsEncode := by
  intro i hwf
  cases i with
  | rxByte b => exact congrArg Except.ok (decodeRx_rxByteSym b)
  | rxTimeout => exact congrArg Except.ok decodeRx_timeout
  | rxFault => exact congrArg Except.ok decodeRx_fault
  | rxReserved sym => exact congrArg Except.ok (decodeRx_of_reserved hwf)
  | opReserved67 lo => exact congrArg Except.ok (decodeOp_reserved67 lo _)
  | opReserved8F lo => exact congrArg Except.ok (decodeOp_reserved8F lo _)
  | nonDelimiter b => exact congrArg Except.ok (if_neg (bne_iff_ne.1 hwf))
  | typeUnrecognized p =>
    obtain ⟨-, h17, h92, h97⟩ := (wellFormed_typeUnrecognized_iff p).1 hwf
    exact congrArg Except.ok (decodeType_of_unrecognized h17 h92 h97)
  | computeChecksum _ | verifyChecksum _ | buildRemoteAt _ _ _ | extractSwitch _ | extractVoltage _
  | opReserved0 | reset | delimiter | typeRemoteAtCommand _ | typeIoDataSample _ | typeAtCommandResponse _
  | atCmdD0 _ _ | atCmdPctV _ _ => rfl

/-! ### The frame on the wire -/

/-- What `decodeFrame_ok` says the frame decoder accepts, it accepts (R60, R61, R74, R101). -/
theorem decodeFrame_of_holds {hi lo : Byte} {body : List Byte} (rest : List Byte)
    (hbody : body.length = (be16 hi lo).toNat + 1)
    (hholds : checksumHolds ([Config.delim, hi, lo] ++ body) = true) :
    decodeFrame ([Config.delim, hi, lo] ++ body ++ rest) =
      .ok (decodeType (body.take (be16 hi lo).toNat), rest) := by
  have henough : ¬ (body ++ rest).length < (be16 hi lo).toNat + 1 := by
    rw [List.length_append]; omega
  have hframe : (body ++ rest).take ((be16 hi lo).toNat + 1) = body := List.take_left' hbody
  have hpayload : (body ++ rest).take (be16 hi lo).toNat = body.take (be16 hi lo).toNat :=
    List.take_append_of_le_length (by omega)
  have hrest : (body ++ rest).drop ((be16 hi lo).toNat + 1) = rest := List.drop_left' hbody
  simp only [List.cons_append, List.nil_append] at hholds ⊢
  simp only [decodeFrame, ne_eq, not_true_eq_false, if_false, if_neg henough, hframe, hholds, if_true,
    hpayload, hrest]

/-- The frame of a payload that the length field can hold decodes to the payload's row (R62, R64). -/
theorem decodeFrame_wireFrame {p : List Byte} (rest : List Byte) (hp : p.length ≤ maxPayload) :
    decodeFrame (wireFrame p ++ rest) = .ok (decodeType p, rest) := by
  have hlen := lengthBytes_toNat hp
  have hholds := checksumHolds_wireFrame p
  rw [wireFrame_eq] at hholds ⊢
  have hdec := decodeFrame_of_holds rest (body := p ++ [checksumOf p])
    (by rw [hlen, List.length_append, List.length_singleton]) hholds
  rw [hlen, List.take_left] at hdec
  exact hdec

/-- The words of the format `frame_type` are the payloads that the length field can hold (R62, R64). -/
theorem encode_of_frameType {i : Instr} (hwf : i.wellFormed = true) (hformat : (rowOf i).format = .frameType) :
    ∃ p, encode i = .frameType p ∧ p.length ≤ maxPayload := by
  cases i with
  | typeRemoteAtCommand rest | typeIoDataSample rest | typeAtCommandResponse rest =>
    exact ⟨_, rfl, of_decide_eq_true hwf⟩
  | typeUnrecognized p => exact ⟨p, rfl, ((wellFormed_typeUnrecognized_iff p).1 hwf).1⟩
  | _ => cases hformat

/-- Settles O40: the frame carries the instruction's word, a payload, and that word decodes to the instruction
(`decodeInvertsEncode`). -/
theorem frameDecodeInvertsEncode : Obligations.FrameDecodeInvertsEncode := by
  intro i rest hwf hformat
  obtain ⟨p, henc, hp⟩ := encode_of_frameType hwf hformat
  have htype : decodeType p = i := by
    have hdec := decodeInvertsEncode i hwf
    rw [henc] at hdec
    exact Except.ok.inj hdec
  have hbytes : encodeFrame i = wireFrame p := by simp only [encodeFrame, henc]
  rw [hbytes, decodeFrame_wireFrame rest hp, htype]

/-! ### The fixed bits of the table's rows -/

/-- The rows of spec/opcode_table.json, in its order: `rowOf` of one instruction of each. -/
def tableRows : List Row :=
  [.rxByte 0, .rxTimeout, .rxFault, .rxReserved 0x300, .computeChecksum [], .verifyChecksum [],
    .buildRemoteAt [] [] false, .extractSwitch [], .extractVoltage [], .opReserved0, .opReserved67 0,
    .opReserved8F 0, .reset, .delimiter, .nonDelimiter 0, .typeRemoteAtCommand [], .typeIoDataSample [],
    .typeAtCommandResponse [], .typeUnrecognized [], .atCmdD0 [] false, .atCmdPctV [] false].map rowOf

theorem rowOf_mem_tableRows (i : Instr) : rowOf i ∈ tableRows := by
  cases i <;> simp [tableRows, rowOf]

/-- Where two rows share a format and a priority, they fix some bit to different values: their patterns differ
under both masks. -/
abbrev FixedBitsDiffer (r q : Row) : Prop :=
  r.format = q.format → r.priority = q.priority → r.pattern &&& q.mask ≠ q.pattern &&& r.mask

/-- The fixed bits of two rows agree when one word has both. -/
theorem fixedBits_agree_of_rowMatches {r q : Row} {w : Nat} (hr : rowMatches r w = true)
    (hq : rowMatches q w = true) : r.pattern &&& q.mask = q.pattern &&& r.mask := by
  rw [← (beq_iff_eq.1 hr : w &&& r.mask = r.pattern), ← (beq_iff_eq.1 hq : w &&& q.mask = q.pattern)]
  exact Nat.and_right_comm w r.mask q.mask

theorem tableRows_pairwise_fixedBitsDiffer : tableRows.Pairwise FixedBitsDiffer := by decide

/-- Settles O42: two different rows of one format and priority differ in a fixed bit, which no word has both
ways. -/
theorem tableRowsDoNotOverlap : Obligations.TableRowsDoNotOverlap := by
  intro i j w hformat hpriority _ hi hj
  have hsymm : Std.Symm FixedBitsDiffer :=
    ⟨fun _ _ hdiffer hf hp heq => hdiffer hf.symm hp.symm heq.symm⟩
  by_contra hne
  have hdiffer : FixedBitsDiffer (rowOf i) (rowOf j) :=
    tableRows_pairwise_fixedBitsDiffer.forall (rowOf_mem_tableRows i) (rowOf_mem_tableRows j) hne
  exact hdiffer hformat hpriority (fixedBits_agree_of_rowMatches hi hj)

/-! ### The step with no word -/

/-- Settles O38: the idle step is `State.quiet` (R217, R224; log entry 2). -/
theorem idleBlockWaits : Obligations.IdleBlockWaits :=
  fun s hempty => step_of_nil s hempty

end Sys2Proof.Proofs
end
